-- ==== Sys2Proof/Word.lean ====
section
/-!
DEFINITION. The words, value domains and data of the RCES block: bytes, request words, bus addresses, the
value-domain members of 00_scope.md rule R12, the frame (30_encoding.md rule R81), the Command model
(rule R83) and the frame buffer of 10_state.md rule R20. Data only: every code, layout and
encoding is a function of Decode.lean or of a file under Machine/.
-/

namespace Sys2Proof

/-- A byte of a frame: a register address or a payload (R52). -/
abbrev Byte := BitVec 8

/-- A request word, `req[31:0]` (R89). -/
abbrev ReqWord := BitVec 32

/-- A device address on the bus, 7 bits (R50 (a)). -/
abbrev BusAddr := BitVec 7

/-- The three channels (R12): `Led1`, `Led2`, `Led3`. -/
inductive Channel where
  | led1 | led2 | led3
  deriving DecidableEq, Repr, Inhabited

/-- The breathing sub-modes (R12): `AUTO`, `ONE_CYCLE`, `RAMP_TO_ON`. -/
inductive SubMode where
  | auto | oneCycle | rampToOn
  deriving DecidableEq, Repr, Inhabited

/-- The marking (R12): `NONE`, or `ON(ch)` naming the channel kept lit. -/
inductive Marking where
  | none
  | on (ch : Channel)
  deriving DecidableEq, Repr, Inhabited

/-- The argument of `SET_MODE` (R152): `PWM`, or `Breathing(sm, mark)`. -/
inductive Mode where
  | pwm
  | breathing (sm : SubMode) (mark : Marking)
  deriving DecidableEq, Repr, Inhabited

/-- The four strap configurations (R12, R32). -/
inductive Strap where
  | gnd | vcc | scl | sda
  deriving DecidableEq, Repr, Inhabited

/-- The transport's own error value, the parameter type `ERR` (R7, R171). RCES copies it and never looks
inside. DESIGN CHOICE (notes/assumptions/3.md): a tagged natural number stands for the opaque type, so
that State stays plain data. -/
structure Err where
  value : Nat
  deriving DecidableEq, Repr, Inhabited

/-- A frame: register address `b0`, sent first, then payload `b1` (R81). -/
structure Frame where
  b0 : Byte
  b1 : Byte
  deriving DecidableEq, Repr, Inhabited

/-- A Command: a kind, a channel for the per-channel kinds, and payload fields (R83, widths R86). `css`
has the three values the spec gives it (R88, R121), so it is a channel. -/
inductive Command where
  | shutdown (en ssd : BitVec 1)
  | breathCtrl (rm ht bme : BitVec 1) (css : Channel)
  | ledMode (bm : BitVec 1)
  | current (cs : BitVec 6)
  | pwm (c : Channel) (d : Byte)
  | pwmUpdate
  | t0 (c : Channel) (t0 : BitVec 4)
  | t12 (c : Channel) (t1 : BitVec 3) (t2 : BitVec 4)
  | t34 (c : Channel) (t3 : BitVec 3) (t4 : BitVec 4)
  | timeUpdate
  | ledControl (l1 l2 l3 : BitVec 1)
  | reset
  deriving DecidableEq, Repr, Inhabited

/-- `FR[0..3]`, the four frames of the current operation (R20). -/
structure FrameBuffer where
  f0 : Frame
  f1 : Frame
  f2 : Frame
  f3 : Frame
  deriving DecidableEq, Repr, Inhabited

/-- `RSP_STATUS` (R20, R24). -/
inductive Status where
  | ok | transportError | illegalRequest
  deriving DecidableEq, Repr, Inhabited

/-- The two encoded objects of 30_encoding.md rule R80: a 32-bit request word, and a frame written as the
16-bit number `frame16 = b0 << 8 | b1` (R82). -/
inductive Encoded where
  | req32 (w : ReqWord)
  | frame16 (w : BitVec 16)
  deriving DecidableEq, Repr

/-- Why a word is no instruction. The first six are the causes rule R172 lists for a request word; the last
two are a frame outside the catalogue of rules R83 to R88. -/
inductive Reject where
  /-- opcode 0xA to 0xF (R105) -/
  | reservedOpcode
  /-- a bit the layout does not assign is set (R101) -/
  | reservedBitSet
  /-- channel code 0b11 (R102) -/
  | channelCode
  /-- sub-mode 0b11 (R103) -/
  | subModeCode
  /-- a coded field outside its legal set (R104) -/
  | codeOutsideLegalSet
  /-- a `SET_MODE` field combination R104 forbids -/
  | modeCombination
  /-- the frame's address is none of the 20 of R51 -/
  | unknownRegister
  /-- a payload bit R85 leaves 0 is set, or `css` is 3 (R87, R88) -/
  | payloadNotEncodable
  deriving DecidableEq, Repr

end Sys2Proof
end

