-- ==== Sys2Proof/Machine/Target.lean ====
section
/-!
DEFINITION. The state of the abstract target register model (20_memory.md rules R62, R63): the chip's
registers as far as the spec describes them. Data only; the effect of a frame is in Machine/Ops.lean.
-/

namespace Sys2Proof

/-- One byte for each channel index c in {0, 1, 2} (R63). -/
structure PerChannel where
  led1 : Byte
  led2 : Byte
  led3 : Byte
  deriving DecidableEq, Repr, Inhabited

/-- The target state of R63: the five control registers `CTRL[a]`, and the raw and active values of the
PWM and timing registers. -/
structure Target where
  /-- `CTRL[0x00]`, "Shutdown / enable" -/
  ctrl00 : Byte
  /-- `CTRL[0x01]`, "Breathing control" -/
  ctrl01 : Byte
  /-- `CTRL[0x02]`, "LED mode select" -/
  ctrl02 : Byte
  /-- `CTRL[0x03]`, "Current limit" -/
  ctrl03 : Byte
  /-- `CTRL[0x1D]`, "Per-channel power enable" -/
  ctrl1D : Byte
  /-- `RAW_PWM[c]`, registers 0x04 to 0x06 -/
  rawPwm : PerChannel
  /-- `ACT_PWM[c]`, the duty in effect -/
  actPwm : PerChannel
  /-- `RAW_T0[c]`, registers 0x0A to 0x0C -/
  rawT0 : PerChannel
  /-- `RAW_T12[c]`, registers 0x10 to 0x12 -/
  rawT12 : PerChannel
  /-- `RAW_T34[c]`, registers 0x16 to 0x18 -/
  rawT34 : PerChannel
  /-- `ACT_T0[c]` -/
  actT0 : PerChannel
  /-- `ACT_T12[c]` -/
  actT12 : PerChannel
  /-- `ACT_T34[c]` -/
  actT34 : PerChannel
  deriving DecidableEq, Repr, Inhabited

end Sys2Proof
end

