-- ==== Sys2Proof/Config.lean ====
section
/-!
DEFINITION. The implementation parameters of 00_scope.md rule R7 and the free values of the model. A
`Config` is one valuation of the parameters; a State carries one, so that a statement about every state
holds for every valuation (notes/assumptions/1.md). The defaults of R7 are `Config.default` in
Decode.lean. A free value is an opaque constant without a body: nothing in Lean can prove a value of it.
-/

namespace Sys2Proof

/-- `ADDR_TABLE`: the device address of each strap setting (R7, R22). -/
structure AddrTable where
  gnd : BusAddr
  vcc : BusAddr
  scl : BusAddr
  sda : BusAddr
  deriving DecidableEq, Repr

/-- The (ramp-enable, hold-time-select) bits of one sub-mode (R7 `BREATH_BITS`). -/
structure RampHold where
  rm : BitVec 1
  ht : BitVec 1
  deriving DecidableEq, Repr

/-- `BREATH_BITS`: one (rm, ht) pair per sub-mode (R7, R152). -/
structure BreathBits where
  auto : RampHold
  oneCycle : RampHold
  rampToOn : RampHold
  deriving DecidableEq, Repr

/-- The parameters of R7 that are plain data. `NOMARK_CSS` has the values {0,1,2}, those of a channel index. -/
structure Config where
  /-- `ADDR_TABLE` -/
  addrTable : AddrTable
  /-- `CS_LEGAL` -/
  csLegal : List (BitVec 6)
  /-- `T0_LEGAL` -/
  t0Legal : List (BitVec 4)
  /-- `T1_LEGAL` -/
  t1Legal : List (BitVec 3)
  /-- `T2_LEGAL` -/
  t2Legal : List (BitVec 4)
  /-- `T3_LEGAL` -/
  t3Legal : List (BitVec 3)
  /-- `T4_LEGAL` -/
  t4Legal : List (BitVec 4)
  /-- `BREATH_BITS` -/
  breathBits : BreathBits
  /-- `NOMARK_CSS` -/
  noMarkCss : Channel
  /-- `PWM_SETTER_COMPAT` -/
  pwmSetterCompat : Bool
  deriving DecidableEq, Repr

/-- The elements a Reset step leaves unspecified (R200): `FR`, `N`, `K`, `RSP_STATUS`, `RSP_ERR`. -/
structure Unspecified where
  fr : FrameBuffer
  n : BitVec 3
  k : BitVec 2
  rspStatus : Status
  rspErr : Err
  deriving DecidableEq, Repr, Inhabited

/-- `FD`: the chip's factory default of each register address, a parameter with no default (R7, R67; I12).
Free value (notes/assumptions/5.md). -/
opaque Config.factoryDefault : Byte → Byte

/-- The chip's registers before any frame, "a free input" (R63; I13). Free value (notes/assumptions/6.md). -/
opaque Config.initialTarget : Target

/-- Whether a frame that was issued and not answered with success took effect at the chip: "a free draw"
(R68; I14), applied to the draw counter. Free value (notes/assumptions/7.md and 8.md). -/
opaque Config.frameLands : Nat → Bool

/-- What a Reset step leaves in the elements R200 makes unspecified (I21, "any value"), applied to the draw
counter. Free value (notes/assumptions/9.md). -/
opaque Config.afterReset : Nat → Unspecified

end Sys2Proof
end

