-- ==== Sys2Proof/Syntax.lean ====
section
/-!
DEFINITION. The instructions: one constructor per row of spec/opcode_table.json. The first ten are the
operations a request word names (30_encoding.md rule R90); the other twenty are the Commands, one per
(kind, channel) of rule R83, which a frame names.
-/

namespace Sys2Proof

/-- One constructor per row of the opcode table, in the table's order. -/
inductive Instr where
  /-- `SET_MAX_CURRENT cs` (R91, R146) -/
  | setMaxCurrent (cs : BitVec 6)
  /-- `SET_PWM r, g, b` (R92, R147) -/
  | setPwm (r g b : Byte)
  /-- `SET_PWM_LED1 v` (R93, R148) -/
  | setPwmLed1 (v : Byte)
  /-- `SET_PWM_LED2 v` (R94, R149) -/
  | setPwmLed2 (v : Byte)
  /-- `SET_PWM_LED3 v` (R95, R150) -/
  | setPwmLed3 (v : Byte)
  /-- `SET_TIMING ch, t0, t1, t2, t3, t4` (R96, R151) -/
  | setTiming (ch : Channel) (t0 : BitVec 4) (t1 : BitVec 3) (t2 : BitVec 4) (t3 : BitVec 3) (t4 : BitVec 4)
  /-- `SET_MODE` (R97, R152) -/
  | setMode (mode : Mode)
  /-- `SHUTDOWN en, ssd` (R98, R153) -/
  | shutdown (en ssd : BitVec 1)
  /-- `SET_LED_POWER l1, l2, l3` (R99, R154) -/
  | setLedPower (l1 l2 l3 : BitVec 1)
  /-- `RESET` (R100, R155) -/
  | reset
  /-- `CMD_SHUTDOWN` (R120) -/
  | cmdShutdown (en ssd : BitVec 1)
  /-- `CMD_BREATH_CTRL` (R121) -/
  | cmdBreathCtrl (rm ht bme : BitVec 1) (css : Channel)
  /-- `CMD_LED_MODE` (R122) -/
  | cmdLedMode (bm : BitVec 1)
  /-- `CMD_CURRENT` (R123) -/
  | cmdCurrent (cs : BitVec 6)
  /-- `CMD_PWM(0)` (R124) -/
  | cmdPwm0 (d : Byte)
  /-- `CMD_PWM(1)` (R124) -/
  | cmdPwm1 (d : Byte)
  /-- `CMD_PWM(2)` (R124) -/
  | cmdPwm2 (d : Byte)
  /-- `CMD_PWM_UPDATE` (R125) -/
  | cmdPwmUpdate
  /-- `CMD_T0(0)` (R126) -/
  | cmdTimeZero0 (t0 : BitVec 4)
  /-- `CMD_T0(1)` (R126) -/
  | cmdTimeZero1 (t0 : BitVec 4)
  /-- `CMD_T0(2)` (R126) -/
  | cmdTimeZero2 (t0 : BitVec 4)
  /-- `CMD_T12(0)` (R127) -/
  | cmdTimeOneTwo0 (t1 : BitVec 3) (t2 : BitVec 4)
  /-- `CMD_T12(1)` (R127) -/
  | cmdTimeOneTwo1 (t1 : BitVec 3) (t2 : BitVec 4)
  /-- `CMD_T12(2)` (R127) -/
  | cmdTimeOneTwo2 (t1 : BitVec 3) (t2 : BitVec 4)
  /-- `CMD_T34(0)` (R128) -/
  | cmdTimeThreeFour0 (t3 : BitVec 3) (t4 : BitVec 4)
  /-- `CMD_T34(1)` (R128) -/
  | cmdTimeThreeFour1 (t3 : BitVec 3) (t4 : BitVec 4)
  /-- `CMD_T34(2)` (R128) -/
  | cmdTimeThreeFour2 (t3 : BitVec 3) (t4 : BitVec 4)
  /-- `CMD_TIME_UPDATE` (R129) -/
  | cmdTimeUpdate
  /-- `CMD_LED_CONTROL` (R130) -/
  | cmdLedControl (l1 l2 l3 : BitVec 1)
  /-- `CMD_RESET` (R131) -/
  | cmdReset
  deriving DecidableEq, Repr

end Sys2Proof
end

