-- ==== Sys2Proof/WellFormed.lean ====
section
/-!
DEFINITION. When an instruction and a configuration are well formed. The value domains of Word.lean leave
one check to an instruction: a coded field lies in its legal set (30_encoding.md rule R104). A
configuration is well formed when its address table is injective (10_state.md rule R22) and its timing
sets hold the codes the source pins (40_commands.md rule R134; 92_eei_decisions.md D10).
-/

namespace Sys2Proof

/-- The coded fields of a request lie in their legal sets (R104, R146, R151). A Command's fields are checked
by the request that builds it (R88), so a Command of the catalogue is well formed as it stands. -/
def Instr.wellFormed (cfg : Config) : Instr → Bool
  | .setMaxCurrent cs => cfg.csLegal.contains cs
  | .setTiming _ t0 t1 t2 t3 t4 =>
    cfg.t0Legal.contains t0 && cfg.t1Legal.contains t1 && cfg.t2Legal.contains t2
      && cfg.t3Legal.contains t3 && cfg.t4Legal.contains t4
  | .setPwm _ _ _ => true
  | .setPwmLed1 _ => true
  | .setPwmLed2 _ => true
  | .setPwmLed3 _ => true
  | .setMode _ => true
  | .shutdown _ _ => true
  | .setLedPower _ _ _ => true
  | .reset => true
  | .cmdShutdown _ _ => true
  | .cmdBreathCtrl _ _ _ _ => true
  | .cmdLedMode _ => true
  | .cmdCurrent _ => true
  | .cmdPwm0 _ => true
  | .cmdPwm1 _ => true
  | .cmdPwm2 _ => true
  | .cmdPwmUpdate => true
  | .cmdTimeZero0 _ => true
  | .cmdTimeZero1 _ => true
  | .cmdTimeZero2 _ => true
  | .cmdTimeOneTwo0 _ _ => true
  | .cmdTimeOneTwo1 _ _ => true
  | .cmdTimeOneTwo2 _ _ => true
  | .cmdTimeThreeFour0 _ _ => true
  | .cmdTimeThreeFour1 _ _ => true
  | .cmdTimeThreeFour2 _ _ => true
  | .cmdTimeUpdate => true
  | .cmdLedControl _ _ _ => true
  | .cmdReset => true

/-- The four addresses are pairwise distinct (R22). -/
def Config.addressesDistinct (cfg : Config) : Bool :=
  decide [cfg.addrTable.gnd, cfg.addrTable.vcc, cfg.addrTable.scl, cfg.addrTable.sda].Nodup

/-- Each timing set contains the code the source pins (R134; D10). -/
def Config.pinnedCodesLegal (cfg : Config) : Bool :=
  cfg.t0Legal.contains 2 && cfg.t1Legal.contains 0 && cfg.t2Legal.contains 0
    && cfg.t3Legal.contains 0 && cfg.t4Legal.contains 0

/-- What R7 and D8, D10 ask of a valuation of the parameters. -/
def Config.wellFormed (cfg : Config) : Bool :=
  cfg.addressesDistinct && cfg.pinnedCodesLegal

end Sys2Proof
end

