-- ==== Sys2Proof/Decode.lean ====
section
/-!
DEFINITION. The encodings of 30_encoding.md and 40_commands.md: the parameter defaults of rule R7, the codes
of the value domains, legality (R104), the request decoder (R108) and the frame decoder (R83 to R88), then
the encoders: the request words (R91 to R100) and the frame encoder `Encode` (R120 to R131).
-/

namespace Sys2Proof

/-! ### Parameter defaults -/

/-- The defaults of R7, the spec's own choice. DESIGN CHOICE (notes/assumptions/2.md): State.reset carries
this valuation; no statement about every state depends on it. -/
def Config.default : Config where
  addrTable := { gnd := 0x68, vcc := 0x6B, scl := 0x69, sda := 0x6A }
  csLegal := [0, 1, 2, 3, 4]
  t0Legal := [0, 1, 2, 3, 4, 5, 6, 7, 8, 9, 10]
  t1Legal := [0, 1, 2, 3, 4, 5, 6, 7]
  t2Legal := [0, 1, 2, 3, 4, 5, 6, 7, 8]
  t3Legal := [0, 1, 2, 3, 4, 5, 6, 7]
  t4Legal := [0, 1, 2, 3, 4, 5, 6, 7, 8]
  breathBits :=
    { auto := { rm := 0, ht := 0 }, oneCycle := { rm := 1, ht := 1 }, rampToOn := { rm := 1, ht := 0 } }
  noMarkCss := .led1
  pwmSetterCompat := false

/-! ### Fields and codes -/

/-- `v[lo + len - 1 : lo]` as an unsigned number of width `len` (R8). -/
def field {n : Nat} (v : BitVec n) (lo len : Nat) : BitVec len :=
  v.extractLsb' lo len

/-- The channel code, equal to the channel index c (R102). -/
def channelCode : Channel → BitVec 2
  | .led1 => 0b00
  | .led2 => 0b01
  | .led3 => 0b10

/-- R102: 0b11 names no channel. -/
def channelOf (code : BitVec 2) : Option Channel :=
  if code = 0b00 then some .led1
  else if code = 0b01 then some .led2
  else if code = 0b10 then some .led3
  else none

/-- The sub-mode code `sm` (R103). -/
def subModeCode : SubMode → BitVec 2
  | .auto => 0b00
  | .oneCycle => 0b01
  | .rampToOn => 0b10

/-- R103: 0b11 names no sub-mode. -/
def subModeOf (code : BitVec 2) : Option SubMode :=
  if code = 0b00 then some .auto
  else if code = 0b01 then some .oneCycle
  else if code = 0b10 then some .rampToOn
  else none

/-- The 2-bit strap input (R32). All four encodings are valid. -/
def strapOf (code : BitVec 2) : Strap :=
  if code = 0b00 then .gnd
  else if code = 0b01 then .vcc
  else if code = 0b10 then .scl
  else .sda

/-- `ADDR_TABLE(strap)` (R21, R22). -/
def addressOf (cfg : Config) : Strap → BusAddr
  | .gnd => cfg.addrTable.gnd
  | .vcc => cfg.addrTable.vcc
  | .scl => cfg.addrTable.scl
  | .sda => cfg.addrTable.sda

/-! ### Legality and the request decoder -/

/-- `Legal(req)`, case by case as R104 writes it. It reads the word and the parameters only. -/
def legal (cfg : Config) (req : ReqWord) : Bool :=
  let op := field req 28 4
  if op = 0x0#4 then
    field req 6 22 == 0 && cfg.csLegal.contains (field req 0 6)
  else if op = 0x1#4 then
    field req 24 4 == 0
  else if op = 0x2#4 || op = 0x3#4 || op = 0x4#4 then
    field req 8 20 == 0
  else if op = 0x5#4 then
    field req 26 2 == 0 && field req 20 4 == 0 && field req 15 1 == 0 && field req 7 1 == 0
      && field req 24 2 != 0b11
      && cfg.t0Legal.contains (field req 0 4) && cfg.t1Legal.contains (field req 4 3)
      && cfg.t2Legal.contains (field req 8 4) && cfg.t3Legal.contains (field req 12 3)
      && cfg.t4Legal.contains (field req 16 4)
  else if op = 0x6#4 then
    field req 14 14 == 0 && field req 9 3 == 0 && field req 6 2 == 0 && field req 1 3 == 0
      && ((field req 0 1 == 0 && field req 12 2 == 0 && field req 8 1 == 0 && field req 4 2 == 0)
        || (field req 0 1 == 1 && field req 4 2 != 0b11
          && ((field req 8 1 == 0 && field req 12 2 == 0)
            || (field req 8 1 == 1 && field req 12 2 != 0b11))))
  else if op = 0x7#4 then
    field req 6 22 == 0 && field req 1 4 == 0
  else if op = 0x8#4 then
    field req 3 25 == 0
  else if op = 0x9#4 then
    field req 0 28 == 0
  else false

/-- An instruction whose coded fields must lie in their legal sets (R104). -/
def checkCodes (cfg : Config) (i : Instr) : Except Reject Instr :=
  if i.wellFormed cfg then .ok i else .error .codeOutsideLegalSet

/-- `SET_TIMING` (R96). -/
def decodeSetTiming (cfg : Config) (w : ReqWord) : Except Reject Instr :=
  if field w 26 2 ≠ 0 ∨ field w 20 4 ≠ 0 ∨ field w 15 1 ≠ 0 ∨ field w 7 1 ≠ 0 then
    .error .reservedBitSet
  else
    match channelOf (field w 24 2) with
    | none => .error .channelCode
    | some ch =>
      checkCodes cfg
        (.setTiming ch (field w 0 4) (field w 4 3) (field w 8 4) (field w 12 3) (field w 16 4))

/-- The marking of a `SET_MODE` word in breathing mode (R97, R103, R104). -/
def decodeMarking (w : ReqWord) : Except Reject Marking :=
  if field w 8 1 = 0 then
    if field w 12 2 = 0 then .ok .none else .error .modeCombination
  else
    match channelOf (field w 12 2) with
    | none => .error .channelCode
    | some ch => .ok (.on ch)

/-- `SET_MODE` (R97, R103, R104). -/
def decodeSetMode (w : ReqWord) : Except Reject Instr :=
  if field w 14 14 ≠ 0 ∨ field w 9 3 ≠ 0 ∨ field w 6 2 ≠ 0 ∨ field w 1 3 ≠ 0 then
    .error .reservedBitSet
  else if field w 0 1 = 0 then
    if field w 12 2 = 0 ∧ field w 8 1 = 0 ∧ field w 4 2 = 0 then .ok (.setMode .pwm)
    else .error .modeCombination
  else
    match subModeOf (field w 4 2) with
    | none => .error .subModeCode
    | some sm =>
      match decodeMarking w with
      | .error r => .error r
      | .ok mark => .ok (.setMode (.breathing sm mark))

/-- `Decode(req)`, total on all 2^32 words (R108). A word that is not legal is refused with the cause R172
names; among several causes the first in the order written here is reported, and nothing reads it. -/
def decodeRequest (cfg : Config) (w : ReqWord) : Except Reject Instr :=
  let op := field w 28 4
  if op = 0x0#4 then
    if field w 6 22 = 0 then checkCodes cfg (.setMaxCurrent (field w 0 6)) else .error .reservedBitSet
  else if op = 0x1#4 then
    if field w 24 4 = 0 then .ok (.setPwm (field w 0 8) (field w 8 8) (field w 16 8))
    else .error .reservedBitSet
  else if op = 0x2#4 then
    if field w 8 20 = 0 then .ok (.setPwmLed1 (field w 0 8)) else .error .reservedBitSet
  else if op = 0x3#4 then
    if field w 8 20 = 0 then .ok (.setPwmLed2 (field w 0 8)) else .error .reservedBitSet
  else if op = 0x4#4 then
    if field w 8 20 = 0 then .ok (.setPwmLed3 (field w 0 8)) else .error .reservedBitSet
  else if op = 0x5#4 then decodeSetTiming cfg w
  else if op = 0x6#4 then decodeSetMode w
  else if op = 0x7#4 then
    if field w 6 22 = 0 ∧ field w 1 4 = 0 then .ok (.shutdown (field w 5 1) (field w 0 1))
    else .error .reservedBitSet
  else if op = 0x8#4 then
    if field w 3 25 = 0 then .ok (.setLedPower (field w 0 1) (field w 1 1) (field w 2 1))
    else .error .reservedBitSet
  else if op = 0x9#4 then
    if field w 0 28 = 0 then .ok .reset else .error .reservedBitSet
  else .error .reservedOpcode

/-! ### The frame decoder -/

/-- `frame16 = {b0, b1}` as a pair of bytes (R82). -/
def frameOfWord (w : BitVec 16) : Frame where
  b0 := field w 8 8
  b1 := field w 0 8

/-- `CMD_SHUTDOWN`: bits 7:6 and 4:1 are 0 (R85). -/
def decodeShutdownFrame (b1 : Byte) : Except Reject Instr :=
  if field b1 6 2 = 0 ∧ field b1 1 4 = 0 then .ok (.cmdShutdown (field b1 5 1) (field b1 0 1))
  else .error .payloadNotEncodable

/-- `CMD_BREATH_CTRL`: bits 7:6 and 3 are 0, and `css` is never 3 (R85, R88, R121). -/
def decodeBreathFrame (b1 : Byte) : Except Reject Instr :=
  if field b1 6 2 = 0 ∧ field b1 3 1 = 0 then
    match channelOf (field b1 0 2) with
    | none => .error .payloadNotEncodable
    | some css => .ok (.cmdBreathCtrl (field b1 5 1) (field b1 4 1) (field b1 2 1) css)
  else .error .payloadNotEncodable

/-- `CMD_LED_MODE`: only bit 5 may be set (R85). -/
def decodeLedModeFrame (b1 : Byte) : Except Reject Instr :=
  if field b1 6 2 = 0 ∧ field b1 0 5 = 0 then .ok (.cmdLedMode (field b1 5 1))
  else .error .payloadNotEncodable

/-- `CMD_CURRENT`: bits 1:0 are 0 (R85). -/
def decodeCurrentFrame (b1 : Byte) : Except Reject Instr :=
  if field b1 0 2 = 0 then .ok (.cmdCurrent (field b1 2 6)) else .error .payloadNotEncodable

/-- `CMD_T0(c)`: bits 3:0 are 0 (R85). -/
def decodeTimeZeroFrame (mk : BitVec 4 → Instr) (b1 : Byte) : Except Reject Instr :=
  if field b1 0 4 = 0 then .ok (mk (field b1 4 4)) else .error .payloadNotEncodable

/-- `CMD_T12(c)` and `CMD_T34(c)`: bit 0 is 0 (R85). -/
def decodeTimePairFrame (mk : BitVec 3 → BitVec 4 → Instr) (b1 : Byte) : Except Reject Instr :=
  if field b1 0 1 = 0 then .ok (mk (field b1 5 3) (field b1 1 4)) else .error .payloadNotEncodable

/-- `CMD_LED_CONTROL`: bits 7:3 are 0 (R85). -/
def decodeLedControlFrame (b1 : Byte) : Except Reject Instr :=
  if field b1 3 5 = 0 then .ok (.cmdLedControl (field b1 0 1) (field b1 1 1) (field b1 2 1))
  else .error .payloadNotEncodable

/-- `CMD_PWM_UPDATE`, `CMD_TIME_UPDATE` and `CMD_RESET`: the payload is 0 (R85). -/
def decodeTriggerFrame (i : Instr) (b1 : Byte) : Except Reject Instr :=
  if b1 = 0 then .ok i else .error .payloadNotEncodable

/-- The Command a frame identifies (R133): the address picks the (kind, c) of R83 and the payload its
fields (R85). Total; any other pair of bytes is refused. -/
def decodeFrame (f : Frame) : Except Reject Instr :=
  match f.b0.toNat with
  | 0x00 => decodeShutdownFrame f.b1
  | 0x01 => decodeBreathFrame f.b1
  | 0x02 => decodeLedModeFrame f.b1
  | 0x03 => decodeCurrentFrame f.b1
  | 0x04 => .ok (.cmdPwm0 f.b1)
  | 0x05 => .ok (.cmdPwm1 f.b1)
  | 0x06 => .ok (.cmdPwm2 f.b1)
  | 0x07 => decodeTriggerFrame .cmdPwmUpdate f.b1
  | 0x0A => decodeTimeZeroFrame .cmdTimeZero0 f.b1
  | 0x0B => decodeTimeZeroFrame .cmdTimeZero1 f.b1
  | 0x0C => decodeTimeZeroFrame .cmdTimeZero2 f.b1
  | 0x10 => decodeTimePairFrame .cmdTimeOneTwo0 f.b1
  | 0x11 => decodeTimePairFrame .cmdTimeOneTwo1 f.b1
  | 0x12 => decodeTimePairFrame .cmdTimeOneTwo2 f.b1
  | 0x16 => decodeTimePairFrame .cmdTimeThreeFour0 f.b1
  | 0x17 => decodeTimePairFrame .cmdTimeThreeFour1 f.b1
  | 0x18 => decodeTimePairFrame .cmdTimeThreeFour2 f.b1
  | 0x1C => decodeTriggerFrame .cmdTimeUpdate f.b1
  | 0x1D => decodeLedControlFrame f.b1
  | 0x2F => decodeTriggerFrame .cmdReset f.b1
  | _ => .error .unknownRegister

/-- The decoder of both formats (R80, R106): the format fixes the length. -/
def decode (cfg : Config) : Encoded → Except Reject Instr
  | .req32 w => decodeRequest cfg w
  | .frame16 w => decodeFrame (frameOfWord w)

/-- The host's view of the decoder under the default parameters: a row of 32 bits is a request word, a row
of 16 bits a frame written as `frame16` (R80, R82). -/
def decodeTableWord (nbits w : Nat) : Option Instr :=
  if nbits = 32 then
    if w < 2 ^ 32 then (decode Config.default (.req32 (BitVec.ofNat 32 w))).toOption else none
  else if nbits = 16 then
    if w < 2 ^ 16 then (decode Config.default (.frame16 (BitVec.ofNat 16 w))).toOption else none
  else none

/-! ### The request encoder -/

/-- R91. -/
def requestSetMaxCurrent (cs : BitVec 6) : ReqWord :=
  0x0#4 ++ 0#22 ++ cs

/-- R92. -/
def requestSetPwm (r g b : Byte) : ReqWord :=
  0x1#4 ++ 0#4 ++ b ++ g ++ r

/-- R93. -/
def requestSetPwmLed1 (v : Byte) : ReqWord :=
  0x2#4 ++ 0#20 ++ v

/-- R94. -/
def requestSetPwmLed2 (v : Byte) : ReqWord :=
  0x3#4 ++ 0#20 ++ v

/-- R95. -/
def requestSetPwmLed3 (v : Byte) : ReqWord :=
  0x4#4 ++ 0#20 ++ v

/-- R96. -/
def requestSetTiming (ch : Channel) (t0 : BitVec 4) (t1 : BitVec 3) (t2 : BitVec 4) (t3 : BitVec 3)
    (t4 : BitVec 4) : ReqWord :=
  0x5#4 ++ 0#2 ++ channelCode ch ++ 0#4 ++ t4 ++ 0#1 ++ t3 ++ t2 ++ 0#1 ++ t1 ++ t0

/-- R97, R103: the fields in the order `mch`, `mk`, `sm`, `m`. -/
def modeWord (mch : BitVec 2) (mk : BitVec 1) (sm : BitVec 2) (m : BitVec 1) : ReqWord :=
  0x6#4 ++ 0#14 ++ mch ++ 0#3 ++ mk ++ 0#2 ++ sm ++ 0#3 ++ m

/-- R97, R103, R104: `PWM` and `NONE` leave the fields they do not use zero. -/
def requestSetMode : Mode → ReqWord
  | .pwm => modeWord 0 0 0 0
  | .breathing sm .none => modeWord 0 0 (subModeCode sm) 1
  | .breathing sm (.on ch) => modeWord (channelCode ch) 1 (subModeCode sm) 1

/-- R98. -/
def requestShutdown (en ssd : BitVec 1) : ReqWord :=
  0x7#4 ++ 0#22 ++ en ++ 0#4 ++ ssd

/-- R99. -/
def requestSetLedPower (l1 l2 l3 : BitVec 1) : ReqWord :=
  0x8#4 ++ 0#25 ++ l3 ++ l2 ++ l1

/-- R100. -/
def requestReset : ReqWord :=
  0x90000000

/-! ### The frame encoder -/

/-- `zext_8(v)` (R8). -/
def zext8 {n : Nat} (v : BitVec n) : Byte :=
  v.setWidth 8

/-- The register address `base + c` of a per-channel kind (R84). -/
def channelAddress (base : Byte) (c : Channel) : Byte :=
  base + zext8 (channelCode c)

/-- `Encode(cmd)`, the frame encoder: one line per rule R120 to R131. -/
def encodeCommand : Command → Frame
  | .shutdown en ssd => ⟨0x00, zext8 en <<< 5 ||| zext8 ssd⟩
  | .breathCtrl rm ht bme css =>
    ⟨0x01, zext8 rm <<< 5 ||| zext8 ht <<< 4 ||| zext8 bme <<< 2 ||| zext8 (channelCode css)⟩
  | .ledMode bm => ⟨0x02, zext8 bm <<< 5⟩
  | .current cs => ⟨0x03, zext8 cs <<< 2⟩
  | .pwm c d => ⟨channelAddress 0x04 c, d⟩
  | .pwmUpdate => ⟨0x07, 0x00⟩
  | .t0 c t0 => ⟨channelAddress 0x0A c, zext8 t0 <<< 4⟩
  | .t12 c t1 t2 => ⟨channelAddress 0x10 c, zext8 t1 <<< 5 ||| zext8 t2 <<< 1⟩
  | .t34 c t3 t4 => ⟨channelAddress 0x16 c, zext8 t3 <<< 5 ||| zext8 t4 <<< 1⟩
  | .timeUpdate => ⟨0x1C, 0x00⟩
  | .ledControl l1 l2 l3 => ⟨0x1D, zext8 l1 ||| zext8 l2 <<< 1 ||| zext8 l3 <<< 2⟩
  | .reset => ⟨0x2F, 0x00⟩

/-- `frame16 = b0 << 8 | b1` (R82). -/
def wordOfFrame (f : Frame) : BitVec 16 :=
  f.b0 ++ f.b1

/-- A Command in the `frame16` notation. -/
def commandWord (c : Command) : Encoded :=
  .frame16 (wordOfFrame (encodeCommand c))

/-- The encoding of every instruction: `Encode_req` of R107 and R108 for an operation, and `Encode` of
40_commands.md for a Command. -/
def encode : Instr → Encoded
  | .setMaxCurrent cs => .req32 (requestSetMaxCurrent cs)
  | .setPwm r g b => .req32 (requestSetPwm r g b)
  | .setPwmLed1 v => .req32 (requestSetPwmLed1 v)
  | .setPwmLed2 v => .req32 (requestSetPwmLed2 v)
  | .setPwmLed3 v => .req32 (requestSetPwmLed3 v)
  | .setTiming ch t0 t1 t2 t3 t4 => .req32 (requestSetTiming ch t0 t1 t2 t3 t4)
  | .setMode mode => .req32 (requestSetMode mode)
  | .shutdown en ssd => .req32 (requestShutdown en ssd)
  | .setLedPower l1 l2 l3 => .req32 (requestSetLedPower l1 l2 l3)
  | .reset => .req32 requestReset
  | .cmdShutdown en ssd => commandWord (.shutdown en ssd)
  | .cmdBreathCtrl rm ht bme css => commandWord (.breathCtrl rm ht bme css)
  | .cmdLedMode bm => commandWord (.ledMode bm)
  | .cmdCurrent cs => commandWord (.current cs)
  | .cmdPwm0 d => commandWord (.pwm .led1 d)
  | .cmdPwm1 d => commandWord (.pwm .led2 d)
  | .cmdPwm2 d => commandWord (.pwm .led3 d)
  | .cmdPwmUpdate => commandWord .pwmUpdate
  | .cmdTimeZero0 t0 => commandWord (.t0 .led1 t0)
  | .cmdTimeZero1 t0 => commandWord (.t0 .led2 t0)
  | .cmdTimeZero2 t0 => commandWord (.t0 .led3 t0)
  | .cmdTimeOneTwo0 t1 t2 => commandWord (.t12 .led1 t1 t2)
  | .cmdTimeOneTwo1 t1 t2 => commandWord (.t12 .led2 t1 t2)
  | .cmdTimeOneTwo2 t1 t2 => commandWord (.t12 .led3 t1 t2)
  | .cmdTimeThreeFour0 t3 t4 => commandWord (.t34 .led1 t3 t4)
  | .cmdTimeThreeFour1 t3 t4 => commandWord (.t34 .led2 t3 t4)
  | .cmdTimeThreeFour2 t3 t4 => commandWord (.t34 .led3 t3 t4)
  | .cmdTimeUpdate => commandWord .timeUpdate
  | .cmdLedControl l1 l2 l3 => commandWord (.ledControl l1 l2 l3)
  | .cmdReset => commandWord .reset

end Sys2Proof
end

