-- ==== Sys2Proof/Machine/State.lean ====
section
/-!
DEFINITION. The state of the machine: the RCES tuple of 10_state.md rule R20, the abstract target register
model of 20_memory.md rule R63, the event log of 41_operations.md rule R157, and what the step relation
takes from outside (the parameters of R7, the samples of the input ports of R28, the draw counter).
-/

namespace Sys2Proof.Machine

/-- `SEQ`, the sequencer phase (R20, R23). -/
inductive Phase where
  /-- `IDLE`: no operation in progress -/
  | idle
  /-- `ISSUE`: `FR[K]` has not been issued -/
  | issue
  /-- `WAIT`: `FR[K]` is outstanding on the transport -/
  | wait
  /-- `RESP`: the response register holds the result until it is delivered -/
  | resp
  deriving DecidableEq, Repr, Inhabited

/-- The events of the log (R157). `responded` carries the error value only with `TRANSPORT_ERROR` (R30, R144). -/
inductive Event where
  | accepted (req : ReqWord)
  | issued (a7 : BusAddr) (f : Frame)
  | acked (k : Nat)
  | failed (k : Nat) (e : Err)
  | responded (status : Status) (e : Option Err)
  | reset (strap : Strap)
  deriving DecidableEq, Repr

/-- One sample of the input ports (R28), the values a step sees. -/
structure PortSample where
  /-- `rst` (R200) -/
  rst : Bool
  /-- the transport is reset together with RCES (R201). DEDUCED (notes/assumptions/8.md): no port of R28,
  but the condition under which R201 admits a reset with a frame outstanding. -/
  transportRst : Bool
  /-- `strap`, read only at reset (R32) -/
  strap : BitVec 2
  /-- `req_valid` (R29) -/
  reqValid : Bool
  /-- `req_word` (R29) -/
  reqWord : ReqWord
  /-- `bus_rsp_valid` (R31) -/
  busRspValid : Bool
  /-- `bus_rsp_ok` (R31) -/
  busRspOk : Bool
  /-- `bus_rsp_err` (R31) -/
  busRspErr : Err
  /-- `rsp_ready` (R30) -/
  rspReady : Bool
  deriving DecidableEq, Repr

/-- A sample in which no input asks for anything. -/
def PortSample.quiet : PortSample where
  rst := false
  transportRst := false
  strap := 0
  reqValid := false
  reqWord := 0
  busRspValid := false
  busRspOk := false
  busRspErr := ⟨0⟩
  rspReady := false

/-- The machine's state. -/
structure State where
  /-- the parameters of R7, which no step changes (notes/assumptions/1.md) -/
  config : Config
  /-- `ADDR7` (R20, R21) -/
  addr7 : BusAddr
  /-- `SEQ` (R20, R23) -/
  seq : Phase
  /-- `FR[0..3]` (R20) -/
  fr : FrameBuffer
  /-- `N`, 3 bits (R20) -/
  n : BitVec 3
  /-- `K`, 2 bits (R20, R25) -/
  k : BitVec 2
  /-- `RSP_STATUS` (R20, R24) -/
  rspStatus : Status
  /-- `RSP_ERR` (R20, R24) -/
  rspErr : Err
  /-- the chip's registers, outside the block (R62, R63) -/
  target : Target
  /-- the event log, oldest event first (R157) -/
  log : List Event
  /-- the input samples to come, the next step's first; past the end every input is quiet
  (notes/assumptions/4.md) -/
  inputs : List PortSample
  /-- the model's own field, not the spec's: how many free values have been drawn (notes/assumptions/7.md) -/
  draws : Nat
  deriving DecidableEq, Repr

/-- Why a step stops with a fault. -/
inductive Fault where
  /-- Raised by the sequencer in `ISSUE` or `WAIT` when `K` does not index a frame the operation holds
  (`K < N <= 4` fails), which the invariant of R27 rules out: "A reader of an element the invariant does
  not cover is a model error". Safe: no run reaches it. -/
  | frameNotHeld
  deriving DecidableEq, Repr

/-- Why a step is refused. -/
inductive Refusal where
  /-- The instruction has no meaning in the model yet. Safe. -/
  | notModelled (mnemonic : String)
  /-- Raised by a reset in `WAIT` without a reset of the transport, which R201 and I20 put outside the
  admitted environment. Safe: the model stops where the block goes on. -/
  | resetWithFrameOutstanding
  /-- Raised when a frame lands at an address that is none of the 20 of R51, where the chip's behaviour is
  not in the spec (I16). RCES never emits such a frame. Safe: no run reaches it. -/
  | unknownTargetAddress (a : Byte)
  deriving DecidableEq, Repr

/-- The machine right after reset (R20, R200, R203): `ADDR7 = ADDR_TABLE(strap)` for the strap `GND` (DESIGN
CHOICE, notes/assumptions/10.md), `SEQ = IDLE`, the log holding the reset event, no input sampled yet.
`FR`, `N`, `K`, `RSP_STATUS` and `RSP_ERR` are unspecified (R20): DESIGN CHOICE, notes/assumptions/11.md.
The chip's registers are a free value (R63), the parameters the defaults of R7. -/
def State.reset : State where
  config := Config.default
  addr7 := addressOf Config.default .gnd
  seq := .idle
  fr := ⟨⟨0, 0⟩, ⟨0, 0⟩, ⟨0, 0⟩, ⟨0, 0⟩⟩
  n := 1
  k := 0
  rspStatus := .ok
  rspErr := ⟨0⟩
  target := Config.initialTarget
  log := [.reset .gnd]
  inputs := []
  draws := 0

end Sys2Proof.Machine
end

