-- ==== Sys2Proof/Machine/Flags.lean ====
section
/-!
DEFINITION. RCES has no flags or condition codes (10_state.md rule R26): `RSP_STATUS` is its only status. This
file gives the status its wire encoding (R28) and the output ports their values in every state (R35).
-/

namespace Sys2Proof.Machine

/-- `rsp_status`: 0b00 OK, 0b01 TRANSPORT_ERROR, 0b10 ILLEGAL_REQUEST (R28); 0b11 is never driven. -/
def statusCode : Status → BitVec 2
  | .ok => 0b00
  | .transportError => 0b01
  | .illegalRequest => 0b10

/-- The error value a response carries: `RSP_ERR`, meaningful only with `TRANSPORT_ERROR` (R24, R30). -/
def responseError (s : State) : Option Err :=
  match s.rspStatus with
  | .transportError => some s.rspErr
  | .ok => none
  | .illegalRequest => none

/-- `FR[K]`, read by index (R20, R25). -/
def frameAt (fr : FrameBuffer) (k : Nat) : Frame :=
  match k with
  | 0 => fr.f0
  | 1 => fr.f1
  | 2 => fr.f2
  | _ => fr.f3

/-- The output ports (R28, R35). `none` where the spec leaves the port's value unspecified. -/
structure Outputs where
  reqReady : Bool
  busReqValid : Bool
  busAddr : BusAddr
  /-- `(bus_b0, bus_b1)` -/
  busFrame : Option Frame
  rspValid : Bool
  rspStatus : Option (BitVec 2)
  rspErr : Option Err
  deriving DecidableEq, Repr

/-- The outputs of a state (R35). They read no input. -/
def outputs (s : State) : Outputs where
  reqReady := s.seq == .idle
  busReqValid := s.seq == .wait
  busAddr := s.addr7
  busFrame := if s.seq = .wait then some (frameAt s.fr s.k.toNat) else none
  rspValid := s.seq == .resp
  rspStatus := if s.seq = .resp then some (statusCode s.rspStatus) else none
  rspErr := if s.seq = .resp then responseError s else none

end Sys2Proof.Machine
end

