-- ==== Sys2Proof/Machine/Operands.lean ====
section
/-!
DEFINITION. What an operation computes from its operands and the parameters: the channel of
each PWM setter (R149, R150), the breathing and marking bits (R152), and the expansion of every operation into
its Command list (R145).
-/

namespace Sys2Proof.Machine

/-- `BREATH_BITS(sm)` (R152). -/
def breathBitsOf (cfg : Config) : SubMode → RampHold
  | .auto => cfg.breathBits.auto
  | .oneCycle => cfg.breathBits.oneCycle
  | .rampToOn => cfg.breathBits.rampToOn

/-- The mark-enable bit of `MarkBits(mark)` (R152). -/
def markEnable : Marking → BitVec 1
  | .none => 0
  | .on _ => 1

/-- The channel-select of `MarkBits(mark)` (R152): `NOMARK_CSS` without a mark. -/
def markChannel (cfg : Config) : Marking → Channel
  | .none => cfg.noMarkCss
  | .on ch => ch

/-- The channel a per-channel PWM setter writes: its own, or channel 1 when `PWM_SETTER_COMPAT` (R145, R149,
R150). -/
def setterChannel (cfg : Config) (own : Channel) : Channel :=
  if cfg.pwmSetterCompat then .led1 else own

/-- R146. -/
def expandSetMaxCurrent (cs : BitVec 6) : List Command :=
  [.current cs]

/-- R147. -/
def expandSetPwm (r g b : Byte) : List Command :=
  [.pwm .led1 r, .pwm .led2 g, .pwm .led3 b, .pwmUpdate]

/-- R148. -/
def expandSetPwmLed1 (v : Byte) : List Command :=
  [.pwm .led1 v, .pwmUpdate]

/-- R149. -/
def expandSetPwmLed2 (cfg : Config) (v : Byte) : List Command :=
  [.pwm (setterChannel cfg .led2) v, .pwmUpdate]

/-- R150. -/
def expandSetPwmLed3 (cfg : Config) (v : Byte) : List Command :=
  [.pwm (setterChannel cfg .led3) v, .pwmUpdate]

/-- R151. -/
def expandSetTiming (ch : Channel) (t0 : BitVec 4) (t1 : BitVec 3) (t2 : BitVec 4) (t3 : BitVec 3)
    (t4 : BitVec 4) : List Command :=
  [.t0 ch t0, .t12 ch t1 t2, .t34 ch t3 t4, .timeUpdate]

/-- R152: the mode-select write first, then the breathing-control write. -/
def expandSetMode (cfg : Config) : Mode → List Command
  | .pwm => [.ledMode 0]
  | .breathing sm mark =>
    [.ledMode 1,
      .breathCtrl (breathBitsOf cfg sm).rm (breathBitsOf cfg sm).ht (markEnable mark) (markChannel cfg mark)]

/-- R153. -/
def expandShutdown (en ssd : BitVec 1) : List Command :=
  [.shutdown en ssd]

/-- R154. -/
def expandSetLedPower (l1 l2 l3 : BitVec 1) : List Command :=
  [.ledControl l1 l2 l3]

/-- R155. -/
def expandReset : List Command :=
  [.reset]

/-- `Expand(op)` (R145). A Command row of the table is no operation (R90) and has no expansion. -/
def expand (cfg : Config) : Instr → List Command
  | .setMaxCurrent cs => expandSetMaxCurrent cs
  | .setPwm r g b => expandSetPwm r g b
  | .setPwmLed1 v => expandSetPwmLed1 v
  | .setPwmLed2 v => expandSetPwmLed2 cfg v
  | .setPwmLed3 v => expandSetPwmLed3 cfg v
  | .setTiming ch t0 t1 t2 t3 t4 => expandSetTiming ch t0 t1 t2 t3 t4
  | .setMode mode => expandSetMode cfg mode
  | .shutdown en ssd => expandShutdown en ssd
  | .setLedPower l1 l2 l3 => expandSetLedPower l1 l2 l3
  | .reset => expandReset
  | .cmdShutdown _ _ => []
  | .cmdBreathCtrl _ _ _ _ => []
  | .cmdLedMode _ => []
  | .cmdCurrent _ => []
  | .cmdPwm0 _ => []
  | .cmdPwm1 _ => []
  | .cmdPwm2 _ => []
  | .cmdPwmUpdate => []
  | .cmdTimeZero0 _ => []
  | .cmdTimeZero1 _ => []
  | .cmdTimeZero2 _ => []
  | .cmdTimeOneTwo0 _ _ => []
  | .cmdTimeOneTwo1 _ _ => []
  | .cmdTimeOneTwo2 _ _ => []
  | .cmdTimeThreeFour0 _ _ => []
  | .cmdTimeThreeFour1 _ _ => []
  | .cmdTimeThreeFour2 _ _ => []
  | .cmdTimeUpdate => []
  | .cmdLedControl _ _ _ => []
  | .cmdReset => []

end Sys2Proof.Machine
end

