-- ==== Sys2Proof/Machine/Ops.lean ====
section
/-!
DEFINITION. The named operations every step and every meaning is made of: the event log, the input port
samples, the frame buffer, the response register (the one shared entry of an error, 00_scope.md rule R10
and 60_exceptions.md rule R174, with Deliver as the return beside it, R175), the effect of a frame at the
target (20_memory.md rules R64 to R67) and the Accept of an operation (41_operations.md rule R140).
-/

namespace Sys2Proof.Machine

/-- The outcome of a meaning or a step. -/
abbrev Result := Host.Outcome State Fault Refusal

/-! ### Log and inputs -/

/-- Append an event to the log (R157). -/
def emit (e : Event) (s : State) : State :=
  { s with log := s.log ++ [e] }

/-- The input sample this step sees. -/
def portsNow (s : State) : PortSample :=
  s.inputs.headD .quiet

/-- The state after the step's input sample was taken. -/
def consumeInput (s : State) : State :=
  { s with inputs := s.inputs.tail }

/-! ### Frame buffer -/

/-- `FR[i] <- f` (R140). -/
def setFrame (fr : FrameBuffer) (i : Nat) (f : Frame) : FrameBuffer :=
  match i with
  | 0 => { fr with f0 := f }
  | 1 => { fr with f1 := f }
  | 2 => { fr with f2 := f }
  | 3 => { fr with f3 := f }
  | _ => fr

/-- `for i in 0..N-1: FR[i] <- Encode(L[i])`, from index `i` on (R140). -/
def storeFrames (fr : FrameBuffer) (i : Nat) : List Command → FrameBuffer
  | [] => fr
  | c :: cs => storeFrames (setFrame fr i (encodeCommand c)) (i + 1) cs

/-- `K` indexes a frame of the operation in flight, as R27 says it does in `ISSUE` and `WAIT`. -/
def holdsFrame (s : State) : Bool :=
  decide (s.k.toNat < s.n.toNat) && decide (s.n.toNat ≤ 4)

/-! ### The response register -/

/-- `Respond(status, e)`: load the response register and enter `RESP` (R10, R24). Without an error value
`RSP_ERR` is left as it is. -/
def respond (st : Status) (e : Option Err) (s : State) : State :=
  { s with rspStatus := st, rspErr := e.getD s.rspErr, seq := .resp }

/-- `raise TransportError(e)` (R10, R143, R174): the frames after the failed one are never issued, the value
is copied unmodified. -/
def raiseTransportError (e : Err) (s : State) : State :=
  respond .transportError (some e) s

/-- `raise IllegalRequest()` (R10, R140, R172). -/
def raiseIllegalRequest (s : State) : State :=
  respond .illegalRequest none s

/-- Deliver, the return (R144, R175): the response is delivered and RCES is idle again. -/
def deliver (s : State) : State :=
  emit (.responded s.rspStatus (responseError s)) { s with seq := .idle }

/-! ### The target -/

/-- Write one channel's byte. -/
def setChannel (p : PerChannel) (c : Channel) (v : Byte) : PerChannel :=
  match c with
  | .led1 => { p with led1 := v }
  | .led2 => { p with led2 := v }
  | .led3 => { p with led3 := v }

/-- R65: the raw duty of all three channels takes effect. -/
def latchPwm (t : Target) : Target :=
  { t with actPwm := t.rawPwm }

/-- R66: the raw timing of all three channels takes effect. -/
def latchTiming (t : Target) : Target :=
  { t with actT0 := t.rawT0, actT12 := t.rawT12, actT34 := t.rawT34 }

/-- The factory defaults of a per-channel register, `FD` at `base`, `base + 1`, `base + 2` (R67). -/
def factoryChannels (base : Byte) : PerChannel where
  led1 := Config.factoryDefault (channelAddress base .led1)
  led2 := Config.factoryDefault (channelAddress base .led2)
  led3 := Config.factoryDefault (channelAddress base .led3)

/-- R67: every element of R63 at its factory default. `FD` gives one byte per register address (R7), so a raw
and an active element of one address have the same default (DEDUCED, notes/assumptions/5.md). -/
def factoryTarget : Target where
  ctrl00 := Config.factoryDefault 0x00
  ctrl01 := Config.factoryDefault 0x01
  ctrl02 := Config.factoryDefault 0x02
  ctrl03 := Config.factoryDefault 0x03
  ctrl1D := Config.factoryDefault 0x1D
  rawPwm := factoryChannels 0x04
  actPwm := factoryChannels 0x04
  rawT0 := factoryChannels 0x0A
  rawT12 := factoryChannels 0x10
  rawT34 := factoryChannels 0x16
  actT0 := factoryChannels 0x0A
  actT12 := factoryChannels 0x10
  actT34 := factoryChannels 0x16

/-- The effect at the target of a frame (a, v) answered success (R64 to R67): `none` at an address outside
the 20 of R51, where the spec gives no behaviour. -/
def writeTarget (t : Target) (f : Frame) : Option Target :=
  match f.b0.toNat with
  | 0x00 => some { t with ctrl00 := f.b1 }
  | 0x01 => some { t with ctrl01 := f.b1 }
  | 0x02 => some { t with ctrl02 := f.b1 }
  | 0x03 => some { t with ctrl03 := f.b1 }
  | 0x04 => some { t with rawPwm := setChannel t.rawPwm .led1 f.b1 }
  | 0x05 => some { t with rawPwm := setChannel t.rawPwm .led2 f.b1 }
  | 0x06 => some { t with rawPwm := setChannel t.rawPwm .led3 f.b1 }
  | 0x07 => some (latchPwm t)
  | 0x0A => some { t with rawT0 := setChannel t.rawT0 .led1 f.b1 }
  | 0x0B => some { t with rawT0 := setChannel t.rawT0 .led2 f.b1 }
  | 0x0C => some { t with rawT0 := setChannel t.rawT0 .led3 f.b1 }
  | 0x10 => some { t with rawT12 := setChannel t.rawT12 .led1 f.b1 }
  | 0x11 => some { t with rawT12 := setChannel t.rawT12 .led2 f.b1 }
  | 0x12 => some { t with rawT12 := setChannel t.rawT12 .led3 f.b1 }
  | 0x16 => some { t with rawT34 := setChannel t.rawT34 .led1 f.b1 }
  | 0x17 => some { t with rawT34 := setChannel t.rawT34 .led2 f.b1 }
  | 0x18 => some { t with rawT34 := setChannel t.rawT34 .led3 f.b1 }
  | 0x1C => some (latchTiming t)
  | 0x1D => some { t with ctrl1D := f.b1 }
  | 0x2F => some factoryTarget
  | _ => none

/-- A frame takes effect at the target (R64 to R67, R69). -/
def landFrame (f : Frame) (s : State) : Result :=
  match writeTarget s.target f with
  | some t => .next { s with target := t }
  | none => .refused (.unknownTargetAddress f.b0)

/-- A frame the transport did not answer with success: its effect or none, a free draw (R68). -/
def mayLandFrame (f : Frame) (s : State) : Result :=
  match writeTarget s.target f with
  | some t =>
    .next { s with
      target := if Config.frameLands s.draws then t else s.target
      draws := s.draws + 1 }
  | none => .refused (.unknownTargetAddress f.b0)

/-- A Command takes effect at the target as the frame `Encode` gives it (R83, R120 to R131, R64 to R67). -/
def runCommand (c : Command) (s : State) : Result :=
  landFrame (encodeCommand c) s

/-! ### Accept -/

/-- The part of Accept that a legal request takes: the list is built and encoded, `K` is 0, the first frame is
next (R140). -/
def loadOperation (l : List Command) (s : State) : State :=
  { s with n := BitVec.ofNat 3 l.length, fr := storeFrames s.fr 0 l, k := 0, seq := .issue }

/-- Accept(req) of an operation that expands to `l` (R140). A request offered while RCES is busy is held back
with no effect (R29, R211). -/
def accept (req : ReqWord) (l : List Command) (s : State) : Result :=
  if s.seq = .idle then
    if legal s.config req then .next (loadOperation l (emit (.accepted req) s))
    else .next (raiseIllegalRequest (emit (.accepted req) s))
  else .next s

/-- Accept(req) of a word that names no operation (R140, R172). -/
def acceptIllegal (req : ReqWord) (s : State) : State :=
  raiseIllegalRequest (emit (.accepted req) s)

/-! ### Issue, the transport's answers and reset -/

/-- Issue (R141): present `FR[K]` at the device address. -/
def issueFrame (s : State) : Result :=
  if holdsFrame s then
    .next { emit (.issued s.addr7 (frameAt s.fr s.k.toNat)) s with seq := .wait }
  else .fault .frameNotHeld

/-- BusOK, the block's part (R142): the last frame ends the operation with OK, any other moves `K` on. -/
def frameAcked (s : State) : State :=
  if s.k.toNat + 1 = s.n.toNat then respond .ok none (emit (.acked s.k.toNat) s)
  else { emit (.acked s.k.toNat) s with k := s.k + 1, seq := .issue }

/-- BusErr(e) (R143, R174): the operation is aborted; the failed frame's effect is a free draw (R68). -/
def frameFailed (e : Err) (s : State) : Result :=
  if holdsFrame s then
    mayLandFrame (frameAt s.fr s.k.toNat) (raiseTransportError e (emit (.failed s.k.toNat e) s))
  else .fault .frameNotHeld

/-- Reset, the block's part (R200): the address from the strap, `IDLE`, every other element unspecified
(a free value), and the event. Nothing of the target is touched (R202). -/
def resetBlock (strap : Strap) (s : State) : State :=
  let u := Config.afterReset s.draws
  { s with
    addr7 := addressOf s.config strap
    seq := .idle
    fr := u.fr
    n := u.n
    k := u.k
    rspStatus := u.rspStatus
    rspErr := u.rspErr
    log := s.log ++ [.reset strap]
    draws := s.draws + 1 }

/-- Reset in any phase (R200, R201). With a frame outstanding it is admitted only together with a reset of the
transport; the abandoned frame then took effect or not (DESIGN CHOICE, notes/assumptions/8.md). -/
def resetStep (p : PortSample) (s : State) : Result :=
  if s.seq = .wait then
    if p.transportRst then
      if holdsFrame s then mayLandFrame (frameAt s.fr s.k.toNat) (resetBlock (strapOf p.strap) s)
      else .fault .frameNotHeld
    else .refused .resetWithFrameOutstanding
  else .next (resetBlock (strapOf p.strap) s)

end Sys2Proof.Machine
end

