-- ==== Sys2Proof/Machine/Commands.lean ====
section
/-!
DEFINITION. The meanings of the twenty Commands (40_commands.md rules R120 to R131). A Command is one register
write: its frame is `Encode` of it, and it takes effect at the target when the transport answers that frame
with success (20_memory.md rules R64 to R67). RCES's own part of that step is in Machine/Sequencer.lean.
-/

namespace Sys2Proof.Machine

/-- `CMD_SHUTDOWN` (R120, R64): `CTRL[0x00]`. -/
def execCmdShutdown (en ssd : BitVec 1) (s : State) : Result :=
  runCommand (.shutdown en ssd) s

/-- `CMD_BREATH_CTRL` (R121, R64): `CTRL[0x01]`. -/
def execCmdBreathCtrl (rm ht bme : BitVec 1) (css : Channel) (s : State) : Result :=
  runCommand (.breathCtrl rm ht bme css) s

/-- `CMD_LED_MODE` (R122, R64): `CTRL[0x02]`. -/
def execCmdLedMode (bm : BitVec 1) (s : State) : Result :=
  runCommand (.ledMode bm) s

/-- `CMD_CURRENT` (R123, R64): `CTRL[0x03]`. -/
def execCmdCurrent (cs : BitVec 6) (s : State) : Result :=
  runCommand (.current cs) s

/-- `CMD_PWM(0)` (R124, R64): `RAW_PWM[0]`, not the duty in effect. -/
def execCmdPwm0 (d : Byte) (s : State) : Result :=
  runCommand (.pwm .led1 d) s

/-- `CMD_PWM(1)` (R124, R64): `RAW_PWM[1]`, not the duty in effect. -/
def execCmdPwm1 (d : Byte) (s : State) : Result :=
  runCommand (.pwm .led2 d) s

/-- `CMD_PWM(2)` (R124, R64): `RAW_PWM[2]`, not the duty in effect. -/
def execCmdPwm2 (d : Byte) (s : State) : Result :=
  runCommand (.pwm .led3 d) s

/-- `CMD_PWM_UPDATE` (R125, R65): latches all three duties. -/
def execCmdPwmUpdate (s : State) : Result :=
  runCommand .pwmUpdate s

/-- `CMD_T0(0)` (R126, R64): `RAW_T0[0]`. -/
def execCmdTimeZero0 (t0 : BitVec 4) (s : State) : Result :=
  runCommand (.t0 .led1 t0) s

/-- `CMD_T0(1)` (R126, R64): `RAW_T0[1]`. -/
def execCmdTimeZero1 (t0 : BitVec 4) (s : State) : Result :=
  runCommand (.t0 .led2 t0) s

/-- `CMD_T0(2)` (R126, R64): `RAW_T0[2]`. -/
def execCmdTimeZero2 (t0 : BitVec 4) (s : State) : Result :=
  runCommand (.t0 .led3 t0) s

/-- `CMD_T12(0)` (R127, R64): `RAW_T12[0]`. -/
def execCmdTimeOneTwo0 (t1 : BitVec 3) (t2 : BitVec 4) (s : State) : Result :=
  runCommand (.t12 .led1 t1 t2) s

/-- `CMD_T12(1)` (R127, R64): `RAW_T12[1]`. -/
def execCmdTimeOneTwo1 (t1 : BitVec 3) (t2 : BitVec 4) (s : State) : Result :=
  runCommand (.t12 .led2 t1 t2) s

/-- `CMD_T12(2)` (R127, R64): `RAW_T12[2]`. -/
def execCmdTimeOneTwo2 (t1 : BitVec 3) (t2 : BitVec 4) (s : State) : Result :=
  runCommand (.t12 .led3 t1 t2) s

/-- `CMD_T34(0)` (R128, R64): `RAW_T34[0]`. -/
def execCmdTimeThreeFour0 (t3 : BitVec 3) (t4 : BitVec 4) (s : State) : Result :=
  runCommand (.t34 .led1 t3 t4) s

/-- `CMD_T34(1)` (R128, R64): `RAW_T34[1]`. -/
def execCmdTimeThreeFour1 (t3 : BitVec 3) (t4 : BitVec 4) (s : State) : Result :=
  runCommand (.t34 .led2 t3 t4) s

/-- `CMD_T34(2)` (R128, R64): `RAW_T34[2]`. -/
def execCmdTimeThreeFour2 (t3 : BitVec 3) (t4 : BitVec 4) (s : State) : Result :=
  runCommand (.t34 .led3 t3 t4) s

/-- `CMD_TIME_UPDATE` (R129, R66): latches the timing of all three channels. -/
def execCmdTimeUpdate (s : State) : Result :=
  runCommand .timeUpdate s

/-- `CMD_LED_CONTROL` (R130, R64): `CTRL[0x1D]`. -/
def execCmdLedControl (l1 l2 l3 : BitVec 1) (s : State) : Result :=
  runCommand (.ledControl l1 l2 l3) s

/-- `CMD_RESET` (R131, R67): every target register to its factory default. -/
def execCmdReset (s : State) : Result :=
  runCommand .reset s

end Sys2Proof.Machine
end

