-- ==== Sys2Proof/Machine/Operations.lean ====
section
/-!
DEFINITION. The meanings of the ten operations (41_operations.md rules R146 to R155): what RCES does in the
step that accepts the request. The frames are then issued by the sequencer's steps (Machine/Sequencer.lean).
-/

namespace Sys2Proof.Machine

/-- `SET_MAX_CURRENT` (R146): a code outside `CS_LEGAL` takes ILLEGAL_REQUEST. -/
def execSetMaxCurrent (cs : BitVec 6) (s : State) : Result :=
  accept (requestSetMaxCurrent cs) (expandSetMaxCurrent cs) s

/-- `SET_PWM` (R147): three duties, then the apply. -/
def execSetPwm (r g b : Byte) (s : State) : Result :=
  accept (requestSetPwm r g b) (expandSetPwm r g b) s

/-- `SET_PWM_LED1` (R148): channel 1, then the apply. -/
def execSetPwmLed1 (v : Byte) (s : State) : Result :=
  accept (requestSetPwmLed1 v) (expandSetPwmLed1 v) s

/-- `SET_PWM_LED2` (R149): channel 2 (channel 1 when `PWM_SETTER_COMPAT`), then the apply. -/
def execSetPwmLed2 (v : Byte) (s : State) : Result :=
  accept (requestSetPwmLed2 v) (expandSetPwmLed2 s.config v) s

/-- `SET_PWM_LED3` (R150): channel 3 (channel 1 when `PWM_SETTER_COMPAT`), then the apply. -/
def execSetPwmLed3 (v : Byte) (s : State) : Result :=
  accept (requestSetPwmLed3 v) (expandSetPwmLed3 s.config v) s

/-- `SET_TIMING` (R151): T0, T1/T2 and T3/T4 of one channel, then the apply; a code outside its legal set takes
ILLEGAL_REQUEST. -/
def execSetTiming (ch : Channel) (t0 : BitVec 4) (t1 : BitVec 3) (t2 : BitVec 4) (t3 : BitVec 3) (t4 : BitVec 4) (s : State) : Result :=
  accept (requestSetTiming ch t0 t1 t2 t3 t4) (expandSetTiming ch t0 t1 t2 t3 t4) s

/-- `SET_MODE` (R152): mode select, and in breathing mode breathing control after it. -/
def execSetMode (mode : Mode) (s : State) : Result :=
  accept (requestSetMode mode) (expandSetMode s.config mode) s

/-- `SHUTDOWN` (R153): the two bits pass through unchanged. -/
def execShutdown (en ssd : BitVec 1) (s : State) : Result :=
  accept (requestShutdown en ssd) (expandShutdown en ssd) s

/-- `SET_LED_POWER` (R154): one enable bit per channel. -/
def execSetLedPower (l1 l2 l3 : BitVec 1) (s : State) : Result :=
  accept (requestSetLedPower l1 l2 l3) (expandSetLedPower l1 l2 l3) s

/-- `RESET` (R155): the chip's reset frame; RCES itself is not reset. -/
def execReset (s : State) : Result :=
  accept requestReset expandReset s

end Sys2Proof.Machine
end

