-- ==== Sys2Proof/Machine/Dispatch.lean ====
section
/-!
DEFINITION. The dispatch: one arm per constructor of Instr, each one direct call of its meaning.
-/

namespace Sys2Proof.Machine

def exec (i : Instr) (s : State) : Host.Outcome State Fault Refusal :=
  match i with
  | .setMaxCurrent cs => Sys2Proof.Machine.execSetMaxCurrent cs s
  | .setPwm r g b => Sys2Proof.Machine.execSetPwm r g b s
  | .setPwmLed1 v => Sys2Proof.Machine.execSetPwmLed1 v s
  | .setPwmLed2 v => Sys2Proof.Machine.execSetPwmLed2 v s
  | .setPwmLed3 v => Sys2Proof.Machine.execSetPwmLed3 v s
  | .setTiming ch t0 t1 t2 t3 t4 => Sys2Proof.Machine.execSetTiming ch t0 t1 t2 t3 t4 s
  | .setMode mode => Sys2Proof.Machine.execSetMode mode s
  | .shutdown en ssd => Sys2Proof.Machine.execShutdown en ssd s
  | .setLedPower l1 l2 l3 => Sys2Proof.Machine.execSetLedPower l1 l2 l3 s
  | .reset => Sys2Proof.Machine.execReset s
  | .cmdShutdown en ssd => Sys2Proof.Machine.execCmdShutdown en ssd s
  | .cmdBreathCtrl rm ht bme css => Sys2Proof.Machine.execCmdBreathCtrl rm ht bme css s
  | .cmdLedMode bm => Sys2Proof.Machine.execCmdLedMode bm s
  | .cmdCurrent cs => Sys2Proof.Machine.execCmdCurrent cs s
  | .cmdPwm0 d => Sys2Proof.Machine.execCmdPwm0 d s
  | .cmdPwm1 d => Sys2Proof.Machine.execCmdPwm1 d s
  | .cmdPwm2 d => Sys2Proof.Machine.execCmdPwm2 d s
  | .cmdPwmUpdate => Sys2Proof.Machine.execCmdPwmUpdate s
  | .cmdTimeZero0 t0 => Sys2Proof.Machine.execCmdTimeZero0 t0 s
  | .cmdTimeZero1 t0 => Sys2Proof.Machine.execCmdTimeZero1 t0 s
  | .cmdTimeZero2 t0 => Sys2Proof.Machine.execCmdTimeZero2 t0 s
  | .cmdTimeOneTwo0 t1 t2 => Sys2Proof.Machine.execCmdTimeOneTwo0 t1 t2 s
  | .cmdTimeOneTwo1 t1 t2 => Sys2Proof.Machine.execCmdTimeOneTwo1 t1 t2 s
  | .cmdTimeOneTwo2 t1 t2 => Sys2Proof.Machine.execCmdTimeOneTwo2 t1 t2 s
  | .cmdTimeThreeFour0 t3 t4 => Sys2Proof.Machine.execCmdTimeThreeFour0 t3 t4 s
  | .cmdTimeThreeFour1 t3 t4 => Sys2Proof.Machine.execCmdTimeThreeFour1 t3 t4 s
  | .cmdTimeThreeFour2 t3 t4 => Sys2Proof.Machine.execCmdTimeThreeFour2 t3 t4 s
  | .cmdTimeUpdate => Sys2Proof.Machine.execCmdTimeUpdate s
  | .cmdLedControl l1 l2 l3 => Sys2Proof.Machine.execCmdLedControl l1 l2 l3 s
  | .cmdReset => Sys2Proof.Machine.execCmdReset s

end Sys2Proof.Machine
end

