-- ==== Sys2Proof/Machine/Sequencer.lean ====
section
/-!
DEFINITION. Which of the steps of 41_operations.md section 1 is enabled (rules R140 to R144, R156, R200), and
which instruction the step runs: the operation a request word names, or the Command a frame names when the
transport has answered it with success. Step.lean only calls these definitions.
-/

namespace Sys2Proof.Machine

/-- What a step does: it runs an instruction at a state, or it ends in an outcome of its own. -/
inductive Action where
  | run (i : Instr) (s : State)
  | ends (o : Result)

/-- `IDLE`: Accept when a request is offered (R140), else nothing. -/
def idleAction (p : PortSample) (s : State) : Action :=
  if p.reqValid then
    match decodeRequest s.config p.reqWord with
    | .ok i => .run i s
    | .error _ => .ends (.next (acceptIllegal p.reqWord s))
  else .ends (.next s)

/-- BusOK (R142): the block moves on, and the Command its frame names runs at the target (R64 to R69). -/
def ackAction (s : State) : Action :=
  if holdsFrame s then
    match decodeFrame (frameAt s.fr s.k.toNat) with
    | .ok i => .run i (frameAcked s)
    | .error _ => .ends (landFrame (frameAt s.fr s.k.toNat) (frameAcked s))
  else .ends (.fault .frameNotHeld)

/-- `WAIT`: BusOK or BusErr when the transport answers (R142, R143); without an answer RCES stays (R156). -/
def waitAction (p : PortSample) (s : State) : Action :=
  if p.busRspValid then
    if p.busRspOk then ackAction s else .ends (frameFailed p.busRspErr s)
  else .ends (.next s)

/-- `RESP`: Deliver when the requester takes the response (R144); else RCES stays (R156). -/
def respAction (p : PortSample) (s : State) : Action :=
  if p.rspReady then .ends (.next (deliver s)) else .ends (.next s)

/-- The step enabled by the phase; `rst` overrides every other (R200). -/
def nextAction (s : State) : Action :=
  if (portsNow s).rst then .ends (resetStep (portsNow s) (consumeInput s))
  else
    match s.seq with
    | .idle => idleAction (portsNow s) (consumeInput s)
    | .issue => .ends (issueFrame (consumeInput s))
    | .wait => waitAction (portsNow s) (consumeInput s)
    | .resp => respAction (portsNow s) (consumeInput s)

/-! ### Input samples -/

/-- The requester offers `w` (R29). -/
def offerSample (w : ReqWord) : PortSample :=
  { PortSample.quiet with reqValid := true, reqWord := w }

/-- The transport answers success (R31). -/
def ackSample : PortSample :=
  { PortSample.quiet with busRspValid := true, busRspOk := true }

/-- The transport answers the error `e` (R31). -/
def failSample (e : Err) : PortSample :=
  { PortSample.quiet with busRspValid := true, busRspErr := e }

/-- The requester takes the response (R30). -/
def takeSample : PortSample :=
  { PortSample.quiet with rspReady := true }

/-- The state in which the very next step accepts `w`: RCES is idle and the request is offered
(notes/assumptions/12.md). -/
def placeRequest (w : ReqWord) (s : State) : State :=
  { s with seq := .idle, inputs := offerSample w :: s.inputs }

/-- The state in which the very next step runs the Command of frame `f`: the frame is outstanding as the only
frame of its operation and the transport answers success (notes/assumptions/12.md). -/
def placeFrame (f : Frame) (s : State) : State :=
  { s with seq := .wait, fr := setFrame s.fr 0 f, n := 1, k := 0, inputs := ackSample :: s.inputs }

/-- A row of the table placed by its format (R80): 16 bits a frame, else a request word. -/
def placeWord (s : State) (nbits w : Nat) : State :=
  if nbits = 16 then placeFrame (frameOfWord (BitVec.ofNat 16 w)) s
  else placeRequest (BitVec.ofNat 32 w) s

end Sys2Proof.Machine
end

