-- ==== Sys2Proof/Machine/Step.lean ====
section
/-!
DEFINITION. One step of the machine (41_operations.md rules R140 to R144, 70_reset_and_hazards.md rule R200).
-/

namespace Sys2Proof.Machine

/-- One step: the enabled action of Machine/Sequencer.lean, an instruction through `exec`. -/
def step (s : State) : Host.Outcome State Fault Refusal :=
  match nextAction s with
  | .run i t => exec i t
  | .ends o => o

/-- `s` with the instruction of bits `w` placed so that the very next step runs it. -/
def State.withFetchWord (s : State) (nbits w : Nat) : State :=
  placeWord s nbits w

end Sys2Proof.Machine
end

