-- ==== Sys2Proof/Machine/Assembler.lean ====
section
/-!
DEFINITION. The assembler of 30_encoding.md rule R107: one line of operation syntax to a request word, and the
syntax of operations and Commands as tokens. No step uses it: RCES takes words.
-/

namespace Sys2Proof.Machine

/-- The tokens of a line. -/
inductive Token where
  | name (s : String)
  | num (n : Nat)
  | comma
  | lparen
  | rparen
  | equals
  deriving DecidableEq, Repr

/-- Why the assembler rejects a line. -/
inductive AsmError where
  /-- the line is no operation of R107 -/
  | syntaxError
  /-- an operand does not fit its field -/
  | operandTooWide
  /-- a code is outside its legal set -/
  | codeOutsideLegalSet
  deriving DecidableEq, Repr

/-! ### From characters to tokens -/

/-- The value of a digit of base 10 or 16. -/
def digitValue (base : Nat) (c : Char) : Option Nat :=
  let v :=
    if 48 ≤ c.toNat ∧ c.toNat ≤ 57 then c.toNat - 48
    else if 97 ≤ c.toNat ∧ c.toNat ≤ 102 then c.toNat - 87
    else if 65 ≤ c.toNat ∧ c.toNat ≤ 70 then c.toNat - 55
    else 16
  if v < base then some v else none

/-- Digits after the value `acc` of those before them. -/
def digitsFrom (base acc : Nat) : List Char → Option Nat
  | [] => some acc
  | c :: cs =>
    match digitValue base c with
    | some d => digitsFrom base (acc * base + d) cs
    | none => none

/-- "Numbers are decimal or `0x` hexadecimal." -/
def parseNumber : List Char → Option Nat
  | '0' :: 'x' :: c :: cs => digitsFrom 16 0 (c :: cs)
  | cs => digitsFrom 10 0 cs

/-- A letter, a digit, `_` or `:` (as in `T0::MS260`). -/
def isWordChar (c : Char) : Bool :=
  (97 ≤ c.toNat && c.toNat ≤ 122) || (65 ≤ c.toNat && c.toNat ≤ 90) || (48 ≤ c.toNat && c.toNat ≤ 58) || c == '_'

/-- The word read so far, its last character first, put before the tokens that follow it. -/
def closeWord (pending : List Char) (ts : List Token) : Option (List Token) :=
  match pending.reverse with
  | [] => some ts
  | c :: cs =>
    if (digitValue 10 c).isSome then (parseNumber (c :: cs)).map fun n => .num n :: ts
    else some (.name (String.ofList (c :: cs)) :: ts)

/-- The mark a character stands for. -/
def markOf (c : Char) : Option Token :=
  if c = ',' then some .comma
  else if c = '(' then some .lparen
  else if c = ')' then some .rparen
  else if c = '=' then some .equals
  else none

/-- The tokens of a line, after the characters `pending` of an unfinished word. -/
def tokenize (pending : List Char) : List Char → Option (List Token)
  | [] => closeWord pending []
  | c :: cs =>
    if isWordChar c then tokenize (c :: pending) cs
    else if c = ' ' then (tokenize [] cs).bind (closeWord pending)
    else
      match markOf c with
      | some t => (tokenize [] cs).bind fun ts => closeWord pending (t :: ts)
      | none => none

/-! ### From tokens to an operation -/

/-- Operands of one token each, with a comma between two. -/
def operandsOf : List Token → Option (List Token)
  | [] => some []
  | [t] => some [t]
  | t :: .comma :: t' :: ts => (operandsOf (t' :: ts)).map (t :: ·)
  | _ => none

/-- A number that fits a field of width `w`. -/
def narrow (w n : Nat) : Except AsmError (BitVec w) :=
  if n < 2 ^ w then .ok (BitVec.ofNat w n) else .error .operandTooWide

/-- A number operand. -/
def numberOperand (w : Nat) : Token → Except AsmError (BitVec w)
  | .num n => narrow w n
  | .name _ => .error .syntaxError
  | .comma => .error .syntaxError
  | .lparen => .error .syntaxError
  | .rparen => .error .syntaxError
  | .equals => .error .syntaxError

/-- A timing operand: a code, or the phase's one known level by name (R107, R134). -/
def timingOperand (w : Nat) (level : String) (code : BitVec w) (t : Token) : Except AsmError (BitVec w) :=
  if t = .name level then .ok code else numberOperand w t

/-- The channel names (R107). -/
def channelName : Channel → String
  | .led1 => "Led1"
  | .led2 => "Led2"
  | .led3 => "Led3"

/-- The sub-mode names (R107). -/
def subModeName : SubMode → String
  | .auto => "AUTO"
  | .oneCycle => "ONE_CYCLE"
  | .rampToOn => "RAMP_TO_ON"

/-- A channel operand. -/
def channelOperand (t : Token) : Except AsmError Channel :=
  if t = .name "Led1" then .ok .led1
  else if t = .name "Led2" then .ok .led2
  else if t = .name "Led3" then .ok .led3
  else .error .syntaxError

/-- A sub-mode operand. -/
def subModeOperand (t : Token) : Except AsmError SubMode :=
  if t = .name "AUTO" then .ok .auto
  else if t = .name "ONE_CYCLE" then .ok .oneCycle
  else if t = .name "RAMP_TO_ON" then .ok .rampToOn
  else .error .syntaxError

/-- `NONE` or `ON(<ch>)`. -/
def markingOperand : List Token → Except AsmError Marking
  | [t] => if t = .name "NONE" then .ok .none else .error .syntaxError
  | [t, .lparen, ch, .rparen] =>
    if t = .name "ON" then (channelOperand ch).map .on else .error .syntaxError
  | _ => .error .syntaxError

/-- The operands of `SET_MODE`. -/
def modeOperands : List Token → Except AsmError Mode
  | [t] => if t = .name "PWM" then .ok .pwm else .error .syntaxError
  | t :: sm :: .comma :: marking =>
    if t = .name "BREATHING" then do
      let sm ← subModeOperand sm
      let mark ← markingOperand marking
      return .breathing sm mark
    else .error .syntaxError
  | _ => .error .syntaxError

/-- The operations with operands of one token each. -/
def plainOperation (op : String) (operands : List Token) : Except AsmError Instr :=
  match operands with
  | [] => if op = "RESET" then .ok .reset else .error .syntaxError
  | [a] =>
    if op = "SET_MAX_CURRENT" then (numberOperand 6 a).map .setMaxCurrent
    else if op = "SET_PWM_LED1" then (numberOperand 8 a).map .setPwmLed1
    else if op = "SET_PWM_LED2" then (numberOperand 8 a).map .setPwmLed2
    else if op = "SET_PWM_LED3" then (numberOperand 8 a).map .setPwmLed3
    else .error .syntaxError
  | [a, b] =>
    if op = "SHUTDOWN" then do
      let en ← numberOperand 1 a
      let ssd ← numberOperand 1 b
      return .shutdown en ssd
    else .error .syntaxError
  | [a, b, c] =>
    if op = "SET_PWM" then do
      let r ← numberOperand 8 a
      let g ← numberOperand 8 b
      let b ← numberOperand 8 c
      return .setPwm r g b
    else if op = "SET_LED_POWER" then do
      let l1 ← numberOperand 1 a
      let l2 ← numberOperand 1 b
      let l3 ← numberOperand 1 c
      return .setLedPower l1 l2 l3
    else .error .syntaxError
  | [ch, a, b, c, d, e] =>
    if op = "SET_TIMING" then do
      let ch ← channelOperand ch
      let t0 ← timingOperand 4 "T0::MS260" 2 a
      let t1 ← timingOperand 3 "T1::MS130" 0 b
      let t2 ← timingOperand 4 "T2::MS0" 0 c
      let t3 ← timingOperand 3 "T3::MS130" 0 d
      let t4 ← timingOperand 4 "T4::MS0" 0 e
      return .setTiming ch t0 t1 t2 t3 t4
    else .error .syntaxError
  | _ => .error .syntaxError

/-- The operation a line of tokens writes. -/
def parseOperation : List Token → Except AsmError Instr
  | .name op :: rest =>
    if op = "SET_MODE" then (modeOperands rest).map .setMode
    else
      match operandsOf rest with
      | some operands => plainOperation op operands
      | none => .error .syntaxError
  | _ => .error .syntaxError

/-- The assembler on tokens: the operation's fields in the layouts of R91 to R100 with every reserved bit zero. "It
rejects an operand outside the field's width or legal set." -/
def assembleTokens (cfg : Config) (ts : List Token) : Except AsmError ReqWord :=
  match parseOperation ts with
  | .error e => .error e
  | .ok i =>
    if i.wellFormed cfg then
      match encode i with
      | .req32 w => .ok w
      | .frame16 _ => .error .syntaxError
    else .error .codeOutsideLegalSet

/-- The assembler on one line. -/
def assemble (cfg : Config) (line : String) : Except AsmError ReqWord :=
  match tokenize [] line.toList with
  | some ts => assembleTokens cfg ts
  | none => .error .syntaxError

/-! ### The syntax as tokens -/

/-- Number operands with commas between them. -/
def commaNumbers : List Nat → List Token
  | [] => []
  | [n] => [.num n]
  | n :: m :: ns => .num n :: .comma :: commaNumbers (m :: ns)

/-- The operands of `SET_MODE` as R107 writes them. -/
def modeTokens : Mode → List Token
  | .pwm => [.name "PWM"]
  | .breathing sm .none => [.name "BREATHING", .name (subModeName sm), .comma, .name "NONE"]
  | .breathing sm (.on ch) =>
    [.name "BREATHING", .name (subModeName sm), .comma, .name "ON", .lparen, .name (channelName ch), .rparen]

/-- The operation syntax of R107; a Command row is no operation. -/
def operationTokens : Instr → Option (List Token)
  | .setMaxCurrent cs => some (.name "SET_MAX_CURRENT" :: commaNumbers [cs.toNat])
  | .setPwm r g b => some (.name "SET_PWM" :: commaNumbers [r.toNat, g.toNat, b.toNat])
  | .setPwmLed1 v => some (.name "SET_PWM_LED1" :: commaNumbers [v.toNat])
  | .setPwmLed2 v => some (.name "SET_PWM_LED2" :: commaNumbers [v.toNat])
  | .setPwmLed3 v => some (.name "SET_PWM_LED3" :: commaNumbers [v.toNat])
  | .setTiming ch t0 t1 t2 t3 t4 =>
    some (.name "SET_TIMING" :: .name (channelName ch) :: .comma ::
      commaNumbers [t0.toNat, t1.toNat, t2.toNat, t3.toNat, t4.toNat])
  | .setMode mode => some (.name "SET_MODE" :: modeTokens mode)
  | .shutdown en ssd => some (.name "SHUTDOWN" :: commaNumbers [en.toNat, ssd.toNat])
  | .setLedPower l1 l2 l3 => some (.name "SET_LED_POWER" :: commaNumbers [l1.toNat, l2.toNat, l3.toNat])
  | .reset => some [.name "RESET"]
  | .cmdShutdown _ _ => none
  | .cmdBreathCtrl _ _ _ _ => none
  | .cmdLedMode _ => none
  | .cmdCurrent _ => none
  | .cmdPwm0 _ => none
  | .cmdPwm1 _ => none
  | .cmdPwm2 _ => none
  | .cmdPwmUpdate => none
  | .cmdTimeZero0 _ => none
  | .cmdTimeZero1 _ => none
  | .cmdTimeZero2 _ => none
  | .cmdTimeOneTwo0 _ _ => none
  | .cmdTimeOneTwo1 _ _ => none
  | .cmdTimeOneTwo2 _ _ => none
  | .cmdTimeThreeFour0 _ _ => none
  | .cmdTimeThreeFour1 _ _ => none
  | .cmdTimeThreeFour2 _ _ => none
  | .cmdTimeUpdate => none
  | .cmdLedControl _ _ _ => none
  | .cmdReset => none

/-- `field=value`, with commas between two. -/
def fieldTokens : List (String × Nat) → List Token
  | [] => []
  | [(f, v)] => [.name f, .equals, .num v]
  | (f, v) :: g :: gs => .name f :: .equals :: .num v :: .comma :: fieldTokens (g :: gs)

/-- `CMD_<KIND>(c)` of a per-channel kind. -/
def kindTokens (kind : String) (c : Channel) : List Token :=
  [.name kind, .lparen, .num (channelCode c).toNat, .rparen]

/-- The Command syntax of R107, `CMD_<KIND>[(c)] field=value, ...`. -/
def commandTokens : Command → List Token
  | .shutdown en ssd => .name "CMD_SHUTDOWN" :: fieldTokens [("en", en.toNat), ("ssd", ssd.toNat)]
  | .breathCtrl rm ht bme css =>
    .name "CMD_BREATH_CTRL" ::
      fieldTokens [("rm", rm.toNat), ("ht", ht.toNat), ("bme", bme.toNat), ("css", (channelCode css).toNat)]
  | .ledMode bm => .name "CMD_LED_MODE" :: fieldTokens [("bm", bm.toNat)]
  | .current cs => .name "CMD_CURRENT" :: fieldTokens [("cs", cs.toNat)]
  | .pwm c d => kindTokens "CMD_PWM" c ++ fieldTokens [("d", d.toNat)]
  | .pwmUpdate => [.name "CMD_PWM_UPDATE"]
  | .t0 c t0 => kindTokens "CMD_T0" c ++ fieldTokens [("t0", t0.toNat)]
  | .t12 c t1 t2 => kindTokens "CMD_T12" c ++ fieldTokens [("t1", t1.toNat), ("t2", t2.toNat)]
  | .t34 c t3 t4 => kindTokens "CMD_T34" c ++ fieldTokens [("t3", t3.toNat), ("t4", t4.toNat)]
  | .timeUpdate => [.name "CMD_TIME_UPDATE"]
  | .ledControl l1 l2 l3 =>
    .name "CMD_LED_CONTROL" :: fieldTokens [("l1", l1.toNat), ("l2", l2.toNat), ("l3", l3.toNat)]
  | .reset => [.name "CMD_RESET"]

end Sys2Proof.Machine
end

