-- ==== Sys2Proof/Safety.lean ====
section
/-!
DEFINITION. What the claims about the machine speak of: the events of an operation in flight
(41_operations.md rules R157, R159), the invariant of a run (10_state.md rule R27, with the log), input
schedules of whole operations (70_reset_and_hazards.md rule R212), and what two states may differ in
without any step or output telling them apart (R27, R34).
-/

namespace Sys2Proof.Machine

/-! ### Rows and registers -/

/-- The rows a request word names (R90). -/
def isOperation : Instr → Bool
  | .setMaxCurrent _ => true
  | .setPwm _ _ _ => true
  | .setPwmLed1 _ => true
  | .setPwmLed2 _ => true
  | .setPwmLed3 _ => true
  | .setTiming _ _ _ _ _ _ => true
  | .setMode _ => true
  | .shutdown _ _ => true
  | .setLedPower _ _ _ => true
  | .reset => true
  | .cmdShutdown _ _ => false
  | .cmdBreathCtrl _ _ _ _ => false
  | .cmdLedMode _ => false
  | .cmdCurrent _ => false
  | .cmdPwm0 _ => false
  | .cmdPwm1 _ => false
  | .cmdPwm2 _ => false
  | .cmdPwmUpdate => false
  | .cmdTimeZero0 _ => false
  | .cmdTimeZero1 _ => false
  | .cmdTimeZero2 _ => false
  | .cmdTimeOneTwo0 _ _ => false
  | .cmdTimeOneTwo1 _ _ => false
  | .cmdTimeOneTwo2 _ _ => false
  | .cmdTimeThreeFour0 _ _ => false
  | .cmdTimeThreeFour1 _ _ => false
  | .cmdTimeThreeFour2 _ _ => false
  | .cmdTimeUpdate => false
  | .cmdLedControl _ _ _ => false
  | .cmdReset => false

/-- The channel index c (R102). -/
def channelIndex : Channel → Nat
  | .led1 => 0
  | .led2 => 1
  | .led3 => 2

/-- The 20 target register addresses of R51. -/
def emittedAddresses : List Byte :=
  [0x00, 0x01, 0x02, 0x03, 0x04, 0x05, 0x06, 0x07, 0x0A, 0x0B]
    ++ [0x0C, 0x10, 0x11, 0x12, 0x16, 0x17, 0x18, 0x1C, 0x1D, 0x2F]

/-- The bits of `req[27:0]` that the layout of an opcode leaves reserved (R91 to R100): the row's mask
without the opcode bits. -/
def reservedBits (op : BitVec 4) : ReqWord :=
  match op.toNat with
  | 0x0 => 0x0FFFFFC0
  | 0x1 => 0x0F000000
  | 0x2 => 0x0FFFFF00
  | 0x3 => 0x0FFFFF00
  | 0x4 => 0x0FFFFF00
  | 0x5 => 0x0CF08080
  | 0x6 => 0x0FFFCECE
  | 0x7 => 0x0FFFFFDE
  | 0x8 => 0x0FFFFFF8
  | 0x9 => 0x0FFFFFFF
  | _ => 0

/-! ### The log of an operation -/

/-- The frames `FR[0..3]` in order. -/
def bufferFrames (fr : FrameBuffer) : List Frame :=
  [fr.f0, fr.f1, fr.f2, fr.f3]

/-- The events of frames that were each issued and acked, in list order, from frame index `k` on (R159 (a)). -/
def ackedLog (a7 : BusAddr) (k : Nat) : List Frame → List Event
  | [] => []
  | f :: fs => .issued a7 f :: .acked k :: ackedLog a7 (k + 1) fs

/-- The strap of the last reset in a log. -/
def lastReset (log : List Event) : Option Strap :=
  (log.filterMap fun e => match e with
    | .reset strap => some strap
    | .accepted _ => none
    | .issued _ _ => none
    | .acked _ => none
    | .failed _ _ => none
    | .responded _ _ => none).getLast?

/-- The frames an operation puts on the bus, `map Encode (Expand(op))` (R27, R145). -/
def framesOf (cfg : Config) (i : Instr) : List Frame :=
  (expand cfg i).map encodeCommand

/-- The frame buffer holds the operation of the accepted word `w`, and `K` indexes one of its frames (R27). -/
def InFlight (s : State) (w : ReqWord) : Prop :=
  ∃ i, decodeRequest s.config w = .ok i ∧ s.n.toNat = (framesOf s.config i).length ∧
    s.k.toNat < s.n.toNat ∧ (bufferFrames s.fr).take s.n.toNat = framesOf s.config i

/-- The frames acked before `FR[K]`. -/
def ackedSoFar (s : State) : List Event :=
  ackedLog s.addr7 0 ((bufferFrames s.fr).take s.k.toNat)

/-- What has happened since the word `w` was accepted, as the phase and the response register say it
(R27, R159 (a), (b), (c), (d)): nothing else was logged since. -/
def Progress (s : State) (w : ReqWord) (since : List Event) : Prop :=
  match s.seq with
  | .idle => False
  | .issue => InFlight s w ∧ since = ackedSoFar s
  | .wait => InFlight s w ∧ since = ackedSoFar s ++ [.issued s.addr7 (frameAt s.fr s.k.toNat)]
  | .resp =>
    match s.rspStatus with
    | .ok => InFlight s w ∧ s.k.toNat + 1 = s.n.toNat ∧
        since = ackedSoFar s ++ [.issued s.addr7 (frameAt s.fr s.k.toNat), .acked s.k.toNat]
    | .transportError => InFlight s w ∧
        since = ackedSoFar s ++ [.issued s.addr7 (frameAt s.fr s.k.toNat), .failed s.k.toNat s.rspErr]
    | .illegalRequest => legal s.config w = false ∧ since = []

/-- The invariant of a run: the address is that of the last reset's strap (R21), and outside `IDLE` the log
ends in the accepted word of the operation in flight and exactly its progress (R27, R159). -/
structure RunInv (s : State) : Prop where
  address : ∃ strap, lastReset s.log = some strap ∧ s.addr7 = addressOf s.config strap
  operation : s.seq ≠ .idle →
    ∃ w earlier since, s.log = earlier ++ .accepted w :: since ∧ Progress s w since

/-! ### Whole operations -/

/-- The input samples of `n` frames answered success: Issue needs no input, BusOK the answer. -/
def ackedFrames : Nat → List PortSample
  | 0 => []
  | n + 1 => PortSample.quiet :: ackSample :: ackedFrames n

/-- The samples of an operation of `n` frames that all succeed, from the offer to the taken response. -/
def completeSchedule (w : ReqWord) (n : Nat) : List PortSample :=
  offerSample w :: (ackedFrames n ++ [takeSample])

/-- The samples of an operation whose frame `k` the transport answers with the error `e`. -/
def abortSchedule (w : ReqWord) (k : Nat) (e : Err) : List PortSample :=
  offerSample w :: (ackedFrames k ++ [PortSample.quiet, failSample e, takeSample])

/-- The target after frames that all took effect, in order (R64 to R67, R69). A frame at an address outside
R51, which no operation emits, changes nothing here. -/
def afterFrames (fs : List Frame) (t : Target) : Target :=
  fs.foldl (fun t f => (writeTarget t f).getD t) t

/-- A run is quiescent in `IDLE` with no request offered (R158). -/
def quiescent (s : State) : Bool :=
  s.seq == .idle && !(portsNow s).reqValid

/-! ### What no step or output tells apart -/

/-- What can ever be observed of two states agrees: all but the chip's registers and the draws (R34), `FR`,
`N` and `K` outside `ISSUE` and `WAIT`, the frames from `N` on, the response register outside `RESP`, and
`RSP_ERR` without `TRANSPORT_ERROR` (R20, R27, R30). -/
structure SameVisible (s u : State) : Prop where
  config : u.config = s.config
  addr7 : u.addr7 = s.addr7
  seq : u.seq = s.seq
  log : u.log = s.log
  inputs : u.inputs = s.inputs
  frames : s.seq = .issue ∨ s.seq = .wait →
    u.n = s.n ∧ u.k = s.k ∧ (bufferFrames u.fr).take s.n.toNat = (bufferFrames s.fr).take s.n.toNat
  response : s.seq = .resp → u.rspStatus = s.rspStatus ∧ responseError u = responseError s

/-- Two outcomes of the same kind, with next states in the relation `R` and equal reasons for a stop. -/
def SameOutcome (R : State → State → Prop) : Result → Result → Prop
  | .next s, .next u => R s u
  | .fault r, .fault r' => r = r'
  | .refused r, .refused r' => r = r'
  | .next _, .fault _ => False
  | .next _, .refused _ => False
  | .fault _, .next _ => False
  | .fault _, .refused _ => False
  | .refused _, .next _ => False
  | .refused _, .fault _ => False

/-- The event a step may log in each phase (R140 to R144), and a reset in any (R157, R200). -/
def eventFits (seq : Phase) (e : Event) : Bool :=
  match e with
  | .accepted _ => seq == .idle
  | .issued _ _ => seq == .issue
  | .acked _ => seq == .wait
  | .failed _ _ => seq == .wait
  | .responded _ _ => seq == .resp
  | .reset _ => true

end Sys2Proof.Machine
end

