-- ==== Sys2Proof/Certificates/Slice0/Obligations.lean ====
section
/-!
DEFINITION. The statements for the provers. Each is a claim of the spec's rules about the machine of
Sys2Proof/Machine; its docstring names the rules.
-/

open Sys2Proof Sys2Proof.Machine Host

/-! ### Encodings -/

/-- Words written from the layouts of R91 to R100 and R83 to R86 decode to what they stand for. decodeTableWord uses
the parameter defaults of R7 (notes/assumptions/2.md, DESIGN CHOICE, unsafe): 0x00000004 decodes because 4 is in
the default `CS_LEGAL`, and 0x52081735 because its codes are in the default timing sets. -/
def Obligations.SpecWordsDecode : Prop :=
  decodeTableWord 32 0x00000004 = some (.setMaxCurrent 4) ∧
  decodeTableWord 32 0x101E140A = some (.setPwm 10 20 30) ∧
  decodeTableWord 32 0x40000001 = some (.setPwmLed3 1) ∧
  decodeTableWord 32 0x52081735 = some (.setTiming .led3 5 3 7 1 8) ∧
  decodeTableWord 32 0x60002111 = some (.setMode (.breathing .oneCycle (.on .led3))) ∧
  decodeTableWord 32 0x70000020 = some (.shutdown 1 0) ∧
  decodeTableWord 32 0x80000005 = some (.setLedPower 1 0 1) ∧
  decodeTableWord 16 0x0125 = some (.cmdBreathCtrl 1 0 1 .led2) ∧
  decodeTableWord 16 0x17E2 = some (.cmdTimeThreeFour1 7 1) ∧
  decodeTableWord 16 0x2F00 = some .cmdReset ∧
  decodeTableWord 32 0x53000000 = none ∧
  decodeTableWord 32 0xA0000000 = none

/-- R107, R108, R133: the encoding of every well-formed instruction decodes to it, under every valuation of the
parameters and at every value of every operand. -/
def Obligations.EncodeThenDecode : Prop :=
  ∀ (cfg : Config) (i : Instr), i.wellFormed cfg = true → decode cfg (encode i) = .ok i

/-- R101, R108: a word that decodes is the encoding of what it decodes to, so no bit of it is ignored, and what
it decodes to is well formed. -/
def Obligations.DecodeThenEncode : Prop :=
  ∀ (cfg : Config) (e : Encoded) (i : Instr), decode cfg e = .ok i → encode i = e ∧ i.wellFormed cfg = true

/-- R104, R108: `Decode` gives an operation for exactly the words `Legal` admits. -/
def Obligations.DecodeAcceptsExactlyLegalWords : Prop :=
  ∀ (cfg : Config) (w : ReqWord), (∃ i, decodeRequest cfg w = .ok i) ↔ legal cfg w = true

/-- R105: opcodes 0xA to 0xF select no operation and are illegal. -/
def Obligations.ReservedOpcodesSelectNothing : Prop :=
  ∀ (cfg : Config) (w : ReqWord), 0xA ≤ (w.extractLsb' 28 4).toNat →
    legal cfg w = false ∧ ∀ i, decodeRequest cfg w ≠ .ok i

/-- R101: a request with a reserved bit set is illegal, whatever its opcode. -/
def Obligations.ReservedBitMakesIllegal : Prop :=
  ∀ (cfg : Config) (w : ReqWord), w &&& reservedBits (w.extractLsb' 28 4) ≠ 0 →
    legal cfg w = false ∧ ∀ i, decodeRequest cfg w ≠ .ok i

/-- R107: the assembler turns the syntax of every well-formed operation into the word that encodes it. -/
def Obligations.SyntaxAssemblesToTheEncoding : Prop :=
  ∀ (cfg : Config) (i : Instr) (w : ReqWord), i.wellFormed cfg = true → encode i = .req32 w →
    ∃ ts, operationTokens i = some ts ∧ assembleTokens cfg ts = .ok w

/-- R107, R104: whatever line it is given, the assembler writes legal words only. Which operands it rejects is said
by `AssemblerRejectsOperandsThatDoNotFit`. -/
def Obligations.AssemblerWritesLegalWordsOnly : Prop :=
  ∀ (cfg : Config) (line : String) (w : ReqWord), assemble cfg line = .ok w → legal cfg w = true

/-- R107: "It rejects an operand outside the field's width or legal set", for the number operands of every operation
that has them. -/
def Obligations.AssemblerRejectsOperandsThatDoNotFit : Prop :=
  ∀ (cfg : Config) (w : ReqWord),
    (∀ cs : Nat, 64 ≤ cs ∨ BitVec.ofNat 6 cs ∉ cfg.csLegal →
      assembleTokens cfg (.name "SET_MAX_CURRENT" :: commaNumbers [cs]) ≠ .ok w) ∧
    (∀ r g b : Nat, 256 ≤ r ∨ 256 ≤ g ∨ 256 ≤ b →
      assembleTokens cfg (.name "SET_PWM" :: commaNumbers [r, g, b]) ≠ .ok w) ∧
    (∀ op ∈ ["SET_PWM_LED1", "SET_PWM_LED2", "SET_PWM_LED3"], ∀ v : Nat, 256 ≤ v →
      assembleTokens cfg (.name op :: commaNumbers [v]) ≠ .ok w) ∧
    (∀ (ch : Channel) (t0 t1 t2 t3 t4 : Nat),
      (16 ≤ t0 ∨ BitVec.ofNat 4 t0 ∉ cfg.t0Legal) ∨ (8 ≤ t1 ∨ BitVec.ofNat 3 t1 ∉ cfg.t1Legal) ∨
        (16 ≤ t2 ∨ BitVec.ofNat 4 t2 ∉ cfg.t2Legal) ∨ (8 ≤ t3 ∨ BitVec.ofNat 3 t3 ∉ cfg.t3Legal) ∨
        (16 ≤ t4 ∨ BitVec.ofNat 4 t4 ∉ cfg.t4Legal) →
      assembleTokens cfg (.name "SET_TIMING" :: .name (channelName ch) :: .comma ::
        commaNumbers [t0, t1, t2, t3, t4]) ≠ .ok w) ∧
    (∀ en ssd : Nat, 2 ≤ en ∨ 2 ≤ ssd →
      assembleTokens cfg (.name "SHUTDOWN" :: commaNumbers [en, ssd]) ≠ .ok w) ∧
    (∀ l1 l2 l3 : Nat, 2 ≤ l1 ∨ 2 ≤ l2 ∨ 2 ≤ l3 →
      assembleTokens cfg (.name "SET_LED_POWER" :: commaNumbers [l1, l2, l3]) ≠ .ok w)

/-- R84, R85: the register address of every (kind, c) and every bit of every payload, high bit first. -/
def Obligations.FrameLayout : Prop :=
  (∀ en ssd : BitVec 1, encodeCommand (.shutdown en ssd) = ⟨0x00, 0#2 ++ en ++ 0#4 ++ ssd⟩) ∧
  (∀ (rm ht bme : BitVec 1) (css : Channel), encodeCommand (.breathCtrl rm ht bme css) =
    ⟨0x01, 0#2 ++ rm ++ ht ++ 0#1 ++ bme ++ BitVec.ofNat 2 (channelIndex css)⟩) ∧
  (∀ bm : BitVec 1, encodeCommand (.ledMode bm) = ⟨0x02, 0#2 ++ bm ++ 0#5⟩) ∧
  (∀ cs : BitVec 6, encodeCommand (.current cs) = ⟨0x03, cs ++ 0#2⟩) ∧
  (∀ (c : Channel) (d : Byte), encodeCommand (.pwm c d) = ⟨BitVec.ofNat 8 (0x04 + channelIndex c), d⟩) ∧
  encodeCommand .pwmUpdate = ⟨0x07, 0⟩ ∧
  (∀ (c : Channel) (t0 : BitVec 4),
    encodeCommand (.t0 c t0) = ⟨BitVec.ofNat 8 (0x0A + channelIndex c), t0 ++ 0#4⟩) ∧
  (∀ (c : Channel) (t1 : BitVec 3) (t2 : BitVec 4),
    encodeCommand (.t12 c t1 t2) = ⟨BitVec.ofNat 8 (0x10 + channelIndex c), t1 ++ t2 ++ 0#1⟩) ∧
  (∀ (c : Channel) (t3 : BitVec 3) (t4 : BitVec 4),
    encodeCommand (.t34 c t3 t4) = ⟨BitVec.ofNat 8 (0x16 + channelIndex c), t3 ++ t4 ++ 0#1⟩) ∧
  encodeCommand .timeUpdate = ⟨0x1C, 0⟩ ∧
  (∀ l1 l2 l3 : BitVec 1, encodeCommand (.ledControl l1 l2 l3) = ⟨0x1D, 0#5 ++ l3 ++ l2 ++ l1⟩) ∧
  encodeCommand .reset = ⟨0x2F, 0⟩

/-- R133: a frame identifies its Command. -/
def Obligations.EncodeCommandInjective : Prop :=
  ∀ c d : Command, encodeCommand c = encodeCommand d → c = d

/-- R51: the addresses operations put on the bus, over all operations, are exactly the 20 of the list. -/
def Obligations.EmittedAddressesExactlyTwenty : Prop :=
  ∀ a : Byte, a ∈ emittedAddresses ↔
    ∃ (cfg : Config) (i : Instr), i.wellFormed cfg = true ∧ ∃ f ∈ framesOf cfg i, f.b0 = a

/-- R22: a well-formed address table gives the four straps four addresses. -/
def Obligations.StrapAddressesDistinct : Prop :=
  ∀ (cfg : Config), cfg.wellFormed = true →
    ∀ p q : Strap, addressOf cfg p = addressOf cfg q → p = q

/-! ### Operations: the step that accepts them

Each says the whole next state: what is not named in it is as before. -/

/-- R146, R91: `SET_MAX_CURRENT` with a legal code completes with one frame. -/
def Obligations.SetMaxCurrentAccepted : Prop :=
  ∀ (cs : BitVec 6) (s : State), s.seq = .idle → cs ∈ s.config.csLegal →
    exec (.setMaxCurrent cs) s = .next { s with
      log := s.log ++ [.accepted (0x0#4 ++ 0#22 ++ cs)]
      n := 1, k := 0, seq := .issue
      fr := { s.fr with f0 := ⟨0x03, cs ++ 0#2⟩ } }

/-- R147, R92: `SET_PWM` completes with three duties and the apply. -/
def Obligations.SetPwmAccepted : Prop :=
  ∀ (r g b : Byte) (s : State), s.seq = .idle →
    exec (.setPwm r g b) s = .next { s with
      log := s.log ++ [.accepted (0x1#4 ++ 0#4 ++ b ++ g ++ r)]
      n := 4, k := 0, seq := .issue
      fr := ⟨⟨0x04, r⟩, ⟨0x05, g⟩, ⟨0x06, b⟩, ⟨0x07, 0⟩⟩ }

/-- R148, R93: `SET_PWM_LED1` completes with channel 1 and the apply. -/
def Obligations.SetPwmLed1Accepted : Prop :=
  ∀ (v : Byte) (s : State), s.seq = .idle →
    exec (.setPwmLed1 v) s = .next { s with
      log := s.log ++ [.accepted (0x2#4 ++ 0#20 ++ v)]
      n := 2, k := 0, seq := .issue
      fr := { s.fr with f0 := ⟨0x04, v⟩, f1 := ⟨0x07, 0⟩ } }

/-- R149, R94, C1: `SET_PWM_LED2` completes with its own channel and the apply; channel 1 when
`PWM_SETTER_COMPAT`. -/
def Obligations.SetPwmLed2Accepted : Prop :=
  ∀ (v : Byte) (s : State), s.seq = .idle →
    exec (.setPwmLed2 v) s = .next { s with
      log := s.log ++ [.accepted (0x3#4 ++ 0#20 ++ v)]
      n := 2, k := 0, seq := .issue
      fr := { s.fr with f0 := ⟨if s.config.pwmSetterCompat then 0x04 else 0x05, v⟩, f1 := ⟨0x07, 0⟩ } }

/-- R150, R95, C1: `SET_PWM_LED3` completes with its own channel and the apply; channel 1 when
`PWM_SETTER_COMPAT`. -/
def Obligations.SetPwmLed3Accepted : Prop :=
  ∀ (v : Byte) (s : State), s.seq = .idle →
    exec (.setPwmLed3 v) s = .next { s with
      log := s.log ++ [.accepted (0x4#4 ++ 0#20 ++ v)]
      n := 2, k := 0, seq := .issue
      fr := { s.fr with f0 := ⟨if s.config.pwmSetterCompat then 0x04 else 0x06, v⟩, f1 := ⟨0x07, 0⟩ } }

/-- R151, R96: `SET_TIMING` with legal codes completes with the channel's three timing writes and the apply. -/
def Obligations.SetTimingAccepted : Prop :=
  ∀ (ch : Channel) (t0 : BitVec 4) (t1 : BitVec 3) (t2 : BitVec 4) (t3 : BitVec 3) (t4 : BitVec 4)
    (s : State), s.seq = .idle →
    t0 ∈ s.config.t0Legal → t1 ∈ s.config.t1Legal → t2 ∈ s.config.t2Legal →
    t3 ∈ s.config.t3Legal → t4 ∈ s.config.t4Legal →
    exec (.setTiming ch t0 t1 t2 t3 t4) s = .next { s with
      log := s.log ++ [.accepted (0x5#4 ++ 0#2 ++ BitVec.ofNat 2 (channelIndex ch) ++ 0#4 ++ t4 ++ 0#1 ++ t3
        ++ t2 ++ 0#1 ++ t1 ++ t0)]
      n := 4, k := 0, seq := .issue
      fr := ⟨⟨BitVec.ofNat 8 (0x0A + channelIndex ch), t0 ++ 0#4⟩,
        ⟨BitVec.ofNat 8 (0x10 + channelIndex ch), t1 ++ t2 ++ 0#1⟩,
        ⟨BitVec.ofNat 8 (0x16 + channelIndex ch), t3 ++ t4 ++ 0#1⟩, ⟨0x1C, 0⟩⟩ }

/-- R152, R97: `SET_MODE` in both modes. `PWM` completes with the mode-select write alone; `Breathing` with the
mode-select write and then breathing control, whose ramp and hold bits are `BREATH_BITS` of the sub-mode
and whose mark bits are those of the marking. -/
def Obligations.SetModeAccepted : Prop :=
  (∀ s : State, s.seq = .idle →
    exec (.setMode .pwm) s = .next { s with
      log := s.log ++ [.accepted 0x60000000]
      n := 1, k := 0, seq := .issue
      fr := { s.fr with f0 := ⟨0x02, 0⟩ } }) ∧
  (∀ (sm : SubMode) (s : State), s.seq = .idle →
    exec (.setMode (.breathing sm .none)) s = .next { s with
      log := s.log ++ [.accepted (0x6#4 ++ 0#14 ++ 0#2 ++ 0#3 ++ 0#1 ++ 0#2 ++ subModeCode sm ++ 0#3 ++ 1#1)]
      n := 2, k := 0, seq := .issue
      fr := { s.fr with
        f0 := ⟨0x02, 0x20⟩
        f1 := ⟨0x01, 0#2 ++ (breathBitsOf s.config sm).rm ++ (breathBitsOf s.config sm).ht ++ 0#1 ++ 0#1
          ++ BitVec.ofNat 2 (channelIndex s.config.noMarkCss)⟩ } }) ∧
  (∀ (sm : SubMode) (ch : Channel) (s : State), s.seq = .idle →
    exec (.setMode (.breathing sm (.on ch))) s = .next { s with
      log := s.log ++ [.accepted (0x6#4 ++ 0#14 ++ BitVec.ofNat 2 (channelIndex ch) ++ 0#3 ++ 1#1 ++ 0#2
        ++ subModeCode sm ++ 0#3 ++ 1#1)]
      n := 2, k := 0, seq := .issue
      fr := { s.fr with
        f0 := ⟨0x02, 0x20⟩
        f1 := ⟨0x01, 0#2 ++ (breathBitsOf s.config sm).rm ++ (breathBitsOf s.config sm).ht ++ 0#1 ++ 1#1
          ++ BitVec.ofNat 2 (channelIndex ch)⟩ } })

/-- R153, R98: `SHUTDOWN` completes with one frame; the two bits pass through. -/
def Obligations.ShutdownAccepted : Prop :=
  ∀ (en ssd : BitVec 1) (s : State), s.seq = .idle →
    exec (.shutdown en ssd) s = .next { s with
      log := s.log ++ [.accepted (0x7#4 ++ 0#22 ++ en ++ 0#4 ++ ssd)]
      n := 1, k := 0, seq := .issue
      fr := { s.fr with f0 := ⟨0x00, 0#2 ++ en ++ 0#4 ++ ssd⟩ } }

/-- R154, R99: `SET_LED_POWER` completes with one frame. -/
def Obligations.SetLedPowerAccepted : Prop :=
  ∀ (l1 l2 l3 : BitVec 1) (s : State), s.seq = .idle →
    exec (.setLedPower l1 l2 l3) s = .next { s with
      log := s.log ++ [.accepted (0x8#4 ++ 0#25 ++ l3 ++ l2 ++ l1)]
      n := 1, k := 0, seq := .issue
      fr := { s.fr with f0 := ⟨0x1D, 0#5 ++ l3 ++ l2 ++ l1⟩ } }

/-- R155, R100: `RESET` completes with the frame (0x2F, 0x00), and RCES's own address is kept. -/
def Obligations.ResetAccepted : Prop :=
  ∀ s : State, s.seq = .idle →
    exec .reset s = .next { s with
      log := s.log ++ [.accepted 0x90000000]
      n := 1, k := 0, seq := .issue
      fr := { s.fr with f0 := ⟨0x2F, 0⟩ } }

/-- R104, R146, R151, R172: an operation with a code outside its legal set takes ILLEGAL_REQUEST: the response
is loaded and no frame is. -/
def Obligations.IllegalCodeTakesIllegalRequest : Prop :=
  ∀ (i : Instr) (w : ReqWord) (s : State), s.seq = .idle → i.wellFormed s.config = false →
    encode i = .req32 w →
    exec i s = .next { s with
      log := s.log ++ [.accepted w]
      rspStatus := .illegalRequest, seq := .resp }

/-- R29, R211: an operation offered while RCES is busy is held back with no effect. That running its row then
leaves the state as it is is the model's reading (notes/assumptions/18.md, DEDUCED). -/
def Obligations.BusyHoldsRequestBack : Prop :=
  (∀ (i : Instr) (s : State), isOperation i = true → s.seq ≠ .idle → exec i s = .next s) ∧
  (∀ (w w' : ReqWord) (v v' : Bool) (p : PortSample) (rest : List PortSample) (s : State),
    s.seq ≠ .idle → s.inputs = { p with reqValid := v, reqWord := w } :: rest →
    step s = step { s with inputs := { p with reqValid := v', reqWord := w' } :: rest })

/-! ### Commands: their effect at the target -/

/-- R64, R120 to R123, R130: the five control registers. Nothing else changes. -/
def Obligations.ControlCommandsWrite : Prop :=
  (∀ (en ssd : BitVec 1) (s : State), exec (.cmdShutdown en ssd) s =
    .next { s with target := { s.target with ctrl00 := 0#2 ++ en ++ 0#4 ++ ssd } }) ∧
  (∀ (rm ht bme : BitVec 1) (css : Channel) (s : State), exec (.cmdBreathCtrl rm ht bme css) s =
    .next { s with target := { s.target with
      ctrl01 := 0#2 ++ rm ++ ht ++ 0#1 ++ bme ++ BitVec.ofNat 2 (channelIndex css) } }) ∧
  (∀ (bm : BitVec 1) (s : State), exec (.cmdLedMode bm) s =
    .next { s with target := { s.target with ctrl02 := 0#2 ++ bm ++ 0#5 } }) ∧
  (∀ (cs : BitVec 6) (s : State), exec (.cmdCurrent cs) s =
    .next { s with target := { s.target with ctrl03 := cs ++ 0#2 } }) ∧
  (∀ (l1 l2 l3 : BitVec 1) (s : State), exec (.cmdLedControl l1 l2 l3) s =
    .next { s with target := { s.target with ctrl1D := 0#5 ++ l3 ++ l2 ++ l1 } })

/-- R64, R124: a PWM duty goes to its channel's raw register alone; the duty in effect is unchanged. -/
def Obligations.PwmCommandsWriteRaw : Prop :=
  ∀ (d : Byte) (s : State),
    exec (.cmdPwm0 d) s =
      .next { s with target := { s.target with rawPwm := { s.target.rawPwm with led1 := d } } } ∧
    exec (.cmdPwm1 d) s =
      .next { s with target := { s.target with rawPwm := { s.target.rawPwm with led2 := d } } } ∧
    exec (.cmdPwm2 d) s =
      .next { s with target := { s.target with rawPwm := { s.target.rawPwm with led3 := d } } }

/-- R64, R126: the T0 code goes to its channel's raw register alone, in bits 7:4. -/
def Obligations.TimeZeroCommandsWriteRaw : Prop :=
  ∀ (t0 : BitVec 4) (s : State),
    exec (.cmdTimeZero0 t0) s =
      .next { s with target := { s.target with rawT0 := { s.target.rawT0 with led1 := t0 ++ 0#4 } } } ∧
    exec (.cmdTimeZero1 t0) s =
      .next { s with target := { s.target with rawT0 := { s.target.rawT0 with led2 := t0 ++ 0#4 } } } ∧
    exec (.cmdTimeZero2 t0) s =
      .next { s with target := { s.target with rawT0 := { s.target.rawT0 with led3 := t0 ++ 0#4 } } }

/-- R64, R127, R128: the T1/T2 and T3/T4 pairs go to their channel's raw register alone. -/
def Obligations.TimePairCommandsWriteRaw : Prop :=
  ∀ (x : BitVec 3) (y : BitVec 4) (s : State),
    exec (.cmdTimeOneTwo0 x y) s =
      .next { s with target := { s.target with rawT12 := { s.target.rawT12 with led1 := x ++ y ++ 0#1 } } } ∧
    exec (.cmdTimeOneTwo1 x y) s =
      .next { s with target := { s.target with rawT12 := { s.target.rawT12 with led2 := x ++ y ++ 0#1 } } } ∧
    exec (.cmdTimeOneTwo2 x y) s =
      .next { s with target := { s.target with rawT12 := { s.target.rawT12 with led3 := x ++ y ++ 0#1 } } } ∧
    exec (.cmdTimeThreeFour0 x y) s =
      .next { s with target := { s.target with rawT34 := { s.target.rawT34 with led1 := x ++ y ++ 0#1 } } } ∧
    exec (.cmdTimeThreeFour1 x y) s =
      .next { s with target := { s.target with rawT34 := { s.target.rawT34 with led2 := x ++ y ++ 0#1 } } } ∧
    exec (.cmdTimeThreeFour2 x y) s =
      .next { s with target := { s.target with rawT34 := { s.target.rawT34 with led3 := x ++ y ++ 0#1 } } }

/-- R65, R66: a frame at an apply register latches all three channels and ignores its payload; every Command with
such an address sends payload 0; the two update Commands have that effect. -/
def Obligations.ApplyFramesLatch : Prop :=
  (∀ c : Command, (encodeCommand c).b0 = 0x07 ∨ (encodeCommand c).b0 = 0x1C → (encodeCommand c).b1 = 0) ∧
  (∀ (v : Byte) (t : Target), writeTarget t ⟨0x07, v⟩ = some { t with actPwm := t.rawPwm }) ∧
  (∀ (v : Byte) (t : Target), writeTarget t ⟨0x1C, v⟩ =
    some { t with actT0 := t.rawT0, actT12 := t.rawT12, actT34 := t.rawT34 }) ∧
  (∀ s : State, exec .cmdPwmUpdate s =
    .next { s with target := { s.target with actPwm := s.target.rawPwm } }) ∧
  (∀ s : State, exec .cmdTimeUpdate s =
    .next { s with target := { s.target with
      actT0 := s.target.rawT0, actT12 := s.target.rawT12, actT34 := s.target.rawT34 } })

/-- R67, R131: the reset frame sets every element of the target to its factory default, whatever `FD` is. That a
raw register and its active value share one default is the model's reading (notes/assumptions/5.md, DEDUCED). -/
def Obligations.ResetCommandRestoresDefaults : Prop :=
  ∀ s : State, exec .cmdReset s = .next { s with target :=
    { ctrl00 := Config.factoryDefault 0x00
      ctrl01 := Config.factoryDefault 0x01
      ctrl02 := Config.factoryDefault 0x02
      ctrl03 := Config.factoryDefault 0x03
      ctrl1D := Config.factoryDefault 0x1D
      rawPwm := ⟨Config.factoryDefault 0x04, Config.factoryDefault 0x05, Config.factoryDefault 0x06⟩
      actPwm := ⟨Config.factoryDefault 0x04, Config.factoryDefault 0x05, Config.factoryDefault 0x06⟩
      rawT0 := ⟨Config.factoryDefault 0x0A, Config.factoryDefault 0x0B, Config.factoryDefault 0x0C⟩
      rawT12 := ⟨Config.factoryDefault 0x10, Config.factoryDefault 0x11, Config.factoryDefault 0x12⟩
      rawT34 := ⟨Config.factoryDefault 0x16, Config.factoryDefault 0x17, Config.factoryDefault 0x18⟩
      actT0 := ⟨Config.factoryDefault 0x0A, Config.factoryDefault 0x0B, Config.factoryDefault 0x0C⟩
      actT12 := ⟨Config.factoryDefault 0x10, Config.factoryDefault 0x11, Config.factoryDefault 0x12⟩
      actT34 := ⟨Config.factoryDefault 0x16, Config.factoryDefault 0x17, Config.factoryDefault 0x18⟩ } }

/-- R83, R133: running the Command a frame identifies is the effect of that frame at the target: the
model's reading of a Command row (notes/assumptions/13.md, DEDUCED). -/
def Obligations.CommandRunsAsItsFrame : Prop :=
  ∀ (f : Frame) (i : Instr) (s : State), decodeFrame f = .ok i →
    ∃ t, writeTarget s.target f = some t ∧ exec i s = .next { s with target := t }

/-! ### Steps -/

/-- R108, R140: in `IDLE`, an offered word that decodes to `i` is run as `i`, after the step's input sample was
taken. -/
def Obligations.StepRunsDecodedRequest : Prop :=
  ∀ (s : State) (p : PortSample) (rest : List PortSample) (i : Instr), s.inputs = p :: rest → p.rst = false →
    s.seq = .idle → p.reqValid = true → decodeRequest s.config p.reqWord = .ok i →
    step s = exec i { s with inputs := rest }

/-- R133, R142: in `WAIT`, a frame answered with success that decodes to the Command `i` is run as `i`, after
the step's input sample was taken and the block has moved on (`frameAcked`, R142). That the acked Command runs at
the chip is in neither rule: it is R64 to R67 under the assumption of R69 (notes/assumptions/15.md, DESIGN CHOICE,
unsafe for statements about the chip), with a Command row meaning its frame's effect (notes/assumptions/13.md,
DEDUCED). -/
def Obligations.StepRunsDecodedFrame : Prop :=
  ∀ (s : State) (p : PortSample) (rest : List PortSample) (i : Instr), s.inputs = p :: rest → p.rst = false →
    s.seq = .wait → p.busRspValid = true → p.busRspOk = true → s.k.toNat < s.n.toNat → s.n.toNat ≤ 4 →
    decodeFrame (frameAt s.fr s.k.toNat) = .ok i →
    step s = exec i (frameAcked { s with inputs := rest })

/-- R140: Accept. An illegal word loads ILLEGAL_REQUEST and no frame; a legal one is decoded, expanded and
encoded into `FR[0..N-1]`, with `K` at 0 and `ISSUE` next. Nothing else changes. -/
def Obligations.AcceptStep : Prop :=
  ∀ (s : State) (p : PortSample) (rest : List PortSample), s.inputs = p :: rest → p.rst = false →
    s.seq = .idle → p.reqValid = true →
    (legal s.config p.reqWord = false →
      step s = .next { s with
        inputs := rest, log := s.log ++ [.accepted p.reqWord]
        rspStatus := .illegalRequest, seq := .resp }) ∧
    (legal s.config p.reqWord = true →
      ∃ i fr, decodeRequest s.config p.reqWord = .ok i ∧
        1 ≤ (expand s.config i).length ∧ (expand s.config i).length ≤ 4 ∧
        bufferFrames fr = (expand s.config i).map encodeCommand
          ++ (bufferFrames s.fr).drop (expand s.config i).length ∧
        step s = .next { s with
          inputs := rest, log := s.log ++ [.accepted p.reqWord]
          n := BitVec.ofNat 3 (expand s.config i).length, fr := fr, k := 0, seq := .issue })

/-- R141: Issue presents `FR[K]` at `ADDR7` and waits. -/
def Obligations.IssueStep : Prop :=
  ∀ s : State, (portsNow s).rst = false → s.seq = .issue → s.k.toNat < s.n.toNat → s.n.toNat ≤ 4 →
    step s = .next { s with
      inputs := s.inputs.tail
      log := s.log ++ [.issued s.addr7 (frameAt s.fr s.k.toNat)]
      seq := .wait }

/-- R142: BusOK ends the operation with OK at the last frame and moves on to the next at any other. That the chip
is left with the frame's effect is no part of R142: it is R64 to R67 under the assumption of R69 that an acked
frame had its effect (notes/assumptions/15.md, DESIGN CHOICE, unsafe for statements about the chip). -/
def Obligations.BusOkStep : Prop :=
  ∀ (s : State) (p : PortSample) (rest : List PortSample) (t : Target), s.inputs = p :: rest →
    p.rst = false → s.seq = .wait → p.busRspValid = true → p.busRspOk = true →
    s.k.toNat < s.n.toNat → s.n.toNat ≤ 4 → writeTarget s.target (frameAt s.fr s.k.toNat) = some t →
    (s.k.toNat + 1 = s.n.toNat → step s = .next { s with
      inputs := rest, log := s.log ++ [.acked s.k.toNat], target := t
      rspStatus := .ok, seq := .resp }) ∧
    (s.k.toNat + 1 < s.n.toNat → step s = .next { s with
      inputs := rest, log := s.log ++ [.acked s.k.toNat], target := t
      k := BitVec.ofNat 2 (s.k.toNat + 1), seq := .issue })

/-- R143, R171, R174, with the failed frame's effect at the target (R68): BusErr carries the transport's value
unmodified and ends the operation; the chip has the frame's effect or none. `draws` is the model's own
counter (notes/assumptions/7.md, DESIGN CHOICE). -/
def Obligations.BusErrStep : Prop :=
  ∀ (s : State) (p : PortSample) (rest : List PortSample) (t : Target), s.inputs = p :: rest →
    p.rst = false → s.seq = .wait → p.busRspValid = true → p.busRspOk = false →
    s.k.toNat < s.n.toNat → s.n.toNat ≤ 4 → writeTarget s.target (frameAt s.fr s.k.toNat) = some t →
    ∃ t', (t' = t ∨ t' = s.target) ∧ step s = .next { s with
      inputs := rest, log := s.log ++ [.failed s.k.toNat p.busRspErr], target := t'
      rspStatus := .transportError, rspErr := p.busRspErr, seq := .resp, draws := s.draws + 1 }

/-- R144, R175: Deliver logs the response, with the error value only for TRANSPORT_ERROR, and RCES is idle; no
other state changes. The event without an error value is the model's reading (notes/assumptions/20.md,
DEDUCED). -/
def Obligations.DeliverStep : Prop :=
  ∀ (s : State) (p : PortSample) (rest : List PortSample), s.inputs = p :: rest → p.rst = false →
    s.seq = .resp → p.rspReady = true →
    (s.rspStatus = .transportError → step s = .next { s with
      inputs := rest, log := s.log ++ [.responded .transportError (some s.rspErr)], seq := .idle }) ∧
    (s.rspStatus ≠ .transportError → step s = .next { s with
      inputs := rest, log := s.log ++ [.responded s.rspStatus none], seq := .idle })

/-- R200, R202: outside `WAIT`, `rst` overrides whatever else is offered: the address is the strap's, RCES is
idle, the log has the reset and no other event, the chip is untouched. What the step leaves in `FR`, `N`,
`K` and the response register is a free value, and the statement says nothing of it (notes/assumptions/9.md, DESIGN
CHOICE). -/
def Obligations.ResetStep : Prop :=
  ∀ (s : State) (p : PortSample) (rest : List PortSample), s.inputs = p :: rest → p.rst = true →
    s.seq ≠ .wait →
    ∃ u : Unspecified, step s = .next { s with
      inputs := rest, log := s.log ++ [.reset (strapOf p.strap)]
      addr7 := addressOf s.config (strapOf p.strap), seq := .idle
      fr := u.fr, n := u.n, k := u.k, rspStatus := u.rspStatus, rspErr := u.rspErr
      draws := s.draws + 1 }

/-- R200, R201, and the model's choice of notes/assumptions/8.md: in `WAIT`, a reset without a reset of the
transport is refused by name; with one it is the reset of R200, and the abandoned frame took effect at the
chip or not. -/
def Obligations.ResetWithFrameOutstanding : Prop :=
  ∀ (s : State) (p : PortSample) (rest : List PortSample) (t : Target), s.inputs = p :: rest → p.rst = true →
    s.seq = .wait →
    (p.transportRst = false → step s = .refused .resetWithFrameOutstanding) ∧
    (p.transportRst = true → s.k.toNat < s.n.toNat → s.n.toNat ≤ 4 →
      writeTarget s.target (frameAt s.fr s.k.toNat) = some t →
      ∃ (u : Unspecified) (t' : Target), (t' = t ∨ t' = s.target) ∧ step s = .next { s with
        inputs := rest, log := s.log ++ [.reset (strapOf p.strap)]
        addr7 := addressOf s.config (strapOf p.strap), seq := .idle
        fr := u.fr, n := u.n, k := u.k, rspStatus := u.rspStatus, rspErr := u.rspErr
        target := t', draws := s.draws + 2 })

/-- R156: without an answer RCES stays in `WAIT`, and without a taker in `RESP`, for any number of steps and
with nothing logged: there is no timeout. -/
def Obligations.NoTimeout : Prop :=
  ∀ (s : State) (j : Nat), (∀ p ∈ s.inputs.take j, p.rst = false) →
    (s.seq = .wait → (∀ p ∈ s.inputs.take j, p.busRspValid = false) →
      Core.run core j s = .next { s with inputs := s.inputs.drop j }) ∧
    (s.seq = .resp → (∀ p ∈ s.inputs.take j, p.rspReady = false) →
      Core.run core j s = .next { s with inputs := s.inputs.drop j })

/-- R158, R140: in a quiescent state without a reset nothing happens: only the input sample is taken.
That the model steps there at all is its form (notes/assumptions/4.md, DESIGN CHOICE). -/
def Obligations.QuiescentStepDoesNothing : Prop :=
  ∀ s : State, quiescent s = true → (portsNow s).rst = false → step s = .next { s with inputs := s.inputs.tail }

/-- R28, R35: the output ports of every state; they are the same whatever inputs are offered. -/
def Obligations.OutputPorts : Prop :=
  ∀ (s : State) (ins : List PortSample),
    outputs { s with inputs := ins } = outputs s ∧
    ((outputs s).reqReady = true ↔ s.seq = .idle) ∧
    ((outputs s).busReqValid = true ↔ s.seq = .wait) ∧
    ((outputs s).rspValid = true ↔ s.seq = .resp) ∧
    (outputs s).busAddr = s.addr7 ∧
    (s.seq = .wait → (outputs s).busFrame = some (frameAt s.fr s.k.toNat)) ∧
    (s.seq = .resp → (outputs s).rspStatus =
      some (match s.rspStatus with | .ok => 0b00 | .transportError => 0b01 | .illegalRequest => 0b10)) ∧
    (s.seq = .resp → s.rspStatus = .transportError → (outputs s).rspErr = some s.rspErr)

/-- R28 to R32, R201: a step that is no reset reads only the inputs of its phase: the request port in `IDLE`, none
in `ISSUE`, the transport's answer in `WAIT`, `rsp_ready` in `RESP`. So the strap acts at reset alone, and an
answer outside `WAIT` is ignored. -/
def Obligations.InputsReadOnlyInTheirPhase : Prop :=
  ∀ (s : State) (p q : PortSample) (rest : List PortSample), s.inputs = p :: rest → p.rst = false → q.rst = false →
    (s.seq = .idle → q.reqValid = p.reqValid → q.reqWord = p.reqWord →
      step { s with inputs := q :: rest } = step s) ∧
    (s.seq = .issue → step { s with inputs := q :: rest } = step s) ∧
    (s.seq = .wait → q.busRspValid = p.busRspValid → q.busRspOk = p.busRspOk → q.busRspErr = p.busRspErr →
      step { s with inputs := q :: rest } = step s) ∧
    (s.seq = .resp → q.rspReady = p.rspReady → step { s with inputs := q :: rest } = step s)

/-! ### Whole-machine rules -/

/-- R157, R173: a step logs at most one event, one that its phase admits, and never changes an earlier one. -/
def Obligations.StepLogsAtMostOneEvent : Prop :=
  ∀ s t : State, step s = .next t →
    t.log = s.log ∨ ∃ e, t.log = s.log ++ [e] ∧ eventFits s.seq e = true

/-- R21: at reset `ADDR7` is the address of the strap, and no other step writes it. -/
def Obligations.Addr7WrittenOnlyAtReset : Prop :=
  ∀ s t : State, step s = .next t →
    ((portsNow s).rst = true → t.addr7 = addressOf s.config (strapOf (portsNow s).strap)) ∧
    ((portsNow s).rst = false → t.addr7 = s.addr7)

/-- R7: the parameters never change. That the state carries them is the model's form (notes/assumptions/1.md, DESIGN
CHOICE). -/
def Obligations.ParametersNeverChange : Prop :=
  ∀ s t : State, step s = .next t → t.config = s.config

/-- R34, R68: the chip's registers change only in a step that ends a frame, and then only to what that frame's effect
gives. For a frame answered success the effect rests on R69 (notes/assumptions/15.md, DESIGN CHOICE). That a
reset which abandons a frame may leave its effect is the model's choice (notes/assumptions/8.md, DESIGN CHOICE):
R68 speaks of a frame answered with an error, and R202 gives a reset no effect of its own at the chip. -/
def Obligations.TargetChangesOnlyByTheFrame : Prop :=
  ∀ s t : State, step s = .next t → t.target ≠ s.target →
    s.seq = .wait ∧ ((portsNow s).rst = true ∨ (portsNow s).busRspValid = true) ∧
      writeTarget s.target (frameAt s.fr s.k.toNat) = some t.target

/-- R57, R65 to R67, R206, R207: the duties and the timing in effect change only with a frame at an apply
register or at the reset register. The frame may be one that a reset abandons, by the model's choice of
notes/assumptions/8.md (DESIGN CHOICE). -/
def Obligations.ActiveValuesNeedAnApply : Prop :=
  ∀ s t : State, step s = .next t →
    (t.target.actPwm ≠ s.target.actPwm → s.seq = .wait ∧
      ((frameAt s.fr s.k.toNat).b0 = 0x07 ∨ (frameAt s.fr s.k.toNat).b0 = 0x2F)) ∧
    (t.target.actT0 ≠ s.target.actT0 ∨ t.target.actT12 ≠ s.target.actT12 ∨
        t.target.actT34 ≠ s.target.actT34 → s.seq = .wait ∧
      ((frameAt s.fr s.k.toNat).b0 = 0x1C ∨ (frameAt s.fr s.k.toNat).b0 = 0x2F))

/-- R159 (e): the last Command of a multi-frame operation is an apply or the breathing-control write, and an
apply stands nowhere else. -/
def Obligations.ApplyComesLast : Prop :=
  ∀ (cfg : Config) (i : Instr), 2 ≤ (expand cfg i).length →
    ∃ (before : List Command) (c : Command), expand cfg i = before ++ [c] ∧
      (c = .pwmUpdate ∨ c = .timeUpdate ∨ ∃ rm ht bme css, c = .breathCtrl rm ht bme css) ∧
      Command.pwmUpdate ∉ before ∧ Command.timeUpdate ∉ before

/-- R26, R27, R34: whatever the chip holds and whatever stands in the elements of R20 that a phase does not
read, any number of steps give the same kind of outcome, the same log and the same visible state. -/
def Obligations.UnreadStateNeverObserved : Prop :=
  ∀ (s u : State) (j : Nat), SameVisible s u →
    SameOutcome SameVisible (Core.run core j s) (Core.run core j u)

/-! ### The invariant -/

/-- R20, R200: right after reset RCES is idle and the invariant holds. The strap of that state is the
model's choice (notes/assumptions/10.md, DESIGN CHOICE). -/
def Obligations.InvariantAtReset : Prop :=
  State.reset.seq = .idle ∧ RunInv State.reset

/-- R27, R159: every step keeps the invariant: in `ISSUE` and `WAIT` the buffer holds the frames of the accepted
operation, and the log since its acceptance is exactly its issued and acked frames, each once, in order, at
`ADDR7`. -/
def Obligations.StepKeepsInvariant : Prop :=
  ∀ s t : State, RunInv s → step s = .next t → RunInv t

/-- R170, R201: under the invariant a step never faults, and the only refusal is the reset that R201 puts
outside the environment (the input that tells it apart: notes/assumptions/8.md, DEDUCED). -/
def Obligations.StepNeverFaults : Prop :=
  ∀ s : State, RunInv s →
    (∃ t, step s = .next t) ∨
    (step s = .refused .resetWithFrameOutstanding ∧ (portsNow s).rst = true ∧ s.seq = .wait)

/-! ### Whole operations -/

/-- R58, R159 (a), R212: a legal operation of N frames whose frames are all acked completes in 2 + 2N steps: it
issues exactly its N frames in list order at `ADDR7`, answers OK and leaves the chip as the frames do. The clause
about the chip is R64 to R67 under the assumption of R69 that an acked frame had its effect
(notes/assumptions/15.md, DESIGN CHOICE, unsafe for statements about the chip). -/
def Obligations.OperationRunsToCompletion : Prop :=
  ∀ (s : State) (w : ReqWord) (i : Instr) (rest : List PortSample), s.seq = .idle →
    decodeRequest s.config w = .ok i →
    s.inputs = completeSchedule w (framesOf s.config i).length ++ rest →
    ∃ t, Core.run core (2 + 2 * (framesOf s.config i).length) s = .next t ∧
      t.seq = .idle ∧ t.inputs = rest ∧ t.config = s.config ∧ t.addr7 = s.addr7 ∧
      t.log = s.log ++ (.accepted w :: ackedLog s.addr7 0 (framesOf s.config i)) ++ [.responded .ok none] ∧
      t.target = afterFrames (framesOf s.config i) s.target

/-- R143, R159 (b), R174, R212: an operation whose frame K the transport answers with e ends after 2 + 2(K+1)
steps with (TRANSPORT_ERROR, e): frames 0 to K-1 were issued and acked, frame K was issued and failed, no
later frame was issued, and the chip has the effect of frames 0 to K-1 with or without that of frame K. That
frames 0 to K-1 had their effect is R64 to R67 under the assumption of R69 (notes/assumptions/15.md, DESIGN
CHOICE, unsafe for statements about the chip); frame K's is the free draw of R68. -/
def Obligations.AbortAtFailedFrame : Prop :=
  ∀ (s : State) (w : ReqWord) (i : Instr) (before after : List Frame) (f : Frame) (e : Err)
    (rest : List PortSample), s.seq = .idle →
    decodeRequest s.config w = .ok i → framesOf s.config i = before ++ f :: after →
    s.inputs = abortSchedule w before.length e ++ rest →
    ∃ t, Core.run core (2 + 2 * (before.length + 1)) s = .next t ∧
      t.seq = .idle ∧ t.inputs = rest ∧ t.config = s.config ∧ t.addr7 = s.addr7 ∧
      t.log = s.log ++ (.accepted w :: ackedLog s.addr7 0 before)
        ++ [.issued s.addr7 f, .failed before.length e, .responded .transportError (some e)] ∧
      (t.target = afterFrames before s.target ∨ t.target = afterFrames (before ++ [f]) s.target)

/-- R159 (c), R172, R212: an illegal request takes two steps, Accept and Deliver; it issues no frame and leaves
the address and the chip as they were. -/
def Obligations.IllegalRequestTakesTwoSteps : Prop :=
  ∀ (s : State) (w : ReqWord) (rest : List PortSample), s.seq = .idle → legal s.config w = false →
    s.inputs = offerSample w :: takeSample :: rest →
    Core.run core 2 s = .next { s with
      inputs := rest, rspStatus := .illegalRequest
      log := s.log ++ [.accepted w, .responded .illegalRequest none] }
end

