-- ==== Sys2Proof/Laws/Bits.lean ====
section
/-!
SUPPORT. Bit fields of concatenations: how `field` reads a word written as its fields side by side. Rewrite
with `simp (disch := omega) only [field_append_high, field_append_low]`.
-/

namespace Sys2Proof

/-- A field wholly in the high part. -/
theorem field_append_high {m n lo len : Nat} (x : BitVec m) (y : BitVec n) (h : n ≤ lo) :
    field (x ++ y) lo len = field x (lo - n) len := by
  apply BitVec.eq_of_getLsbD_eq
  intro i hi
  simp only [field, BitVec.getLsbD_extractLsb', BitVec.getLsbD_append, hi, decide_true, Bool.true_and]
  rw [if_neg (by omega)]
  congr 1; omega

/-- A field wholly in the low part. -/
theorem field_append_low {m n lo len : Nat} (x : BitVec m) (y : BitVec n) (h : lo + len ≤ n) :
    field (x ++ y) lo len = field y lo len := by
  apply BitVec.eq_of_getLsbD_eq
  intro i hi
  simp only [field, BitVec.getLsbD_extractLsb', BitVec.getLsbD_append, hi, decide_true, Bool.true_and]
  rw [if_pos (by omega)]

/-- A field that is the whole word. -/
@[simp] theorem field_whole {n : Nat} (x : BitVec n) : field x 0 n = x := by
  simp [field]

/-- A field of a constant. -/
theorem field_ofNat (n x lo len : Nat) :
    field (BitVec.ofNat n x) lo len = BitVec.ofNat len ((x % 2 ^ n) >>> lo) := rfl

/-- A word is its high part beside its low part. -/
theorem field_split {n : Nat} (w : BitVec n) (lo k len : Nat) :
    field w (lo + k) len ++ field w lo k = field w lo (len + k) := by
  apply BitVec.eq_of_getLsbD_eq
  intro i hi
  simp only [field, BitVec.getLsbD_append, BitVec.getLsbD_extractLsb', hi, decide_true, Bool.true_and]
  split
  · simp [*]
  · rw [decide_eq_true (by omega), Bool.true_and]
    congr 1; omega

@[simp] theorem channelOf_code (c : Channel) : channelOf (channelCode c) = some c := by
  cases c <;> rfl

@[simp] theorem subModeOf_code (sm : SubMode) : subModeOf (subModeCode sm) = some sm := by
  cases sm <;> rfl

/-- A channel code names the channel whose code it is (R102). -/
theorem channelOf_eq_some {code : BitVec 2} {c : Channel} (h : channelOf code = some c) :
    code = channelCode c := by
  revert c; revert code; decide

/-- A sub-mode code names the sub-mode whose code it is (R103). -/
theorem subModeOf_eq_some {code : BitVec 2} {sm : SubMode} (h : subModeOf code = some sm) :
    code = subModeCode sm := by
  revert sm; revert code; decide

/-- Only 0b11 names no channel (R102). -/
theorem channelOf_eq_none {code : BitVec 2} : channelOf code = none ↔ code = 0b11 := by
  revert code; decide

/-- Only 0b11 names no sub-mode (R103). -/
theorem subModeOf_eq_none {code : BitVec 2} : subModeOf code = none ↔ code = 0b11 := by
  revert code; decide

end Sys2Proof
end

