-- ==== Sys2Proof/Laws/Encoding.lean ====
section
/-!
SUPPORT. The opcode field of each request word, and the two views of a frame.
-/

namespace Sys2Proof

theorem opcode_requestSetMaxCurrent (cs : BitVec 6) : field (requestSetMaxCurrent cs) 28 4 = 0x0#4 := by
  unfold requestSetMaxCurrent; simp (disch := omega) only [field_append_high]; rfl

theorem opcode_requestSetPwm (r g b : Byte) : field (requestSetPwm r g b) 28 4 = 0x1#4 := by
  unfold requestSetPwm; simp (disch := omega) only [field_append_high]; rfl

theorem opcode_requestSetPwmLed1 (v : Byte) : field (requestSetPwmLed1 v) 28 4 = 0x2#4 := by
  unfold requestSetPwmLed1; simp (disch := omega) only [field_append_high]; rfl

theorem opcode_requestSetPwmLed2 (v : Byte) : field (requestSetPwmLed2 v) 28 4 = 0x3#4 := by
  unfold requestSetPwmLed2; simp (disch := omega) only [field_append_high]; rfl

theorem opcode_requestSetPwmLed3 (v : Byte) : field (requestSetPwmLed3 v) 28 4 = 0x4#4 := by
  unfold requestSetPwmLed3; simp (disch := omega) only [field_append_high]; rfl

theorem opcode_requestSetTiming (ch : Channel) (t0 : BitVec 4) (t1 : BitVec 3) (t2 : BitVec 4) (t3 : BitVec 3)
    (t4 : BitVec 4) : field (requestSetTiming ch t0 t1 t2 t3 t4) 28 4 = 0x5#4 := by
  unfold requestSetTiming; simp (disch := omega) only [field_append_high]; rfl

theorem opcode_modeWord (mch : BitVec 2) (mk : BitVec 1) (sm : BitVec 2) (m : BitVec 1) :
    field (modeWord mch mk sm m) 28 4 = 0x6#4 := by
  unfold modeWord; simp (disch := omega) only [field_append_high]; rfl

theorem opcode_requestShutdown (en ssd : BitVec 1) : field (requestShutdown en ssd) 28 4 = 0x7#4 := by
  unfold requestShutdown; simp (disch := omega) only [field_append_high]; rfl

theorem opcode_requestSetLedPower (l1 l2 l3 : BitVec 1) :
    field (requestSetLedPower l1 l2 l3) 28 4 = 0x8#4 := by
  unfold requestSetLedPower; simp (disch := omega) only [field_append_high]; rfl

theorem opcode_requestReset : field requestReset 28 4 = 0x9#4 := rfl

/-- `frame16` read back as a pair of bytes (R82). -/
@[simp] theorem frameOfWord_wordOfFrame (f : Frame) : frameOfWord (wordOfFrame f) = f := by
  unfold frameOfWord wordOfFrame
  simp (disch := omega) only [field_append_high, field_append_low, Nat.sub_self, field_whole]

/-- A pair of bytes written as `frame16` (R82). -/
@[simp] theorem wordOfFrame_frameOfWord (w : BitVec 16) : wordOfFrame (frameOfWord w) = w :=
  (field_split w 0 8 8).trans (field_whole w)

/-- The channel index is the value of the channel code (R102). -/
theorem channelAddress_injective (base : Byte) {c d : Channel}
    (h : channelAddress base c = channelAddress base d) : c = d := by
  have h' : zext8 (channelCode c) = zext8 (channelCode d) := by
    unfold channelAddress at h; exact (BitVec.add_right_inj base).mp h
  cases c <;> cases d <;> first | rfl | exact absurd h' (by decide)

end Sys2Proof
end

