-- ==== Sys2Proof/Laws/State.lean ====
section
/-!
SUPPORT. One lemma per field per named update of the state (Machine/Ops.lean), so that no proof unfolds a
record update.
-/

namespace Sys2Proof.Machine

/-! ### emit -/

@[simp] theorem emit_config (e : Event) (s : State) : (emit e s).config = s.config := rfl
@[simp] theorem emit_addr7 (e : Event) (s : State) : (emit e s).addr7 = s.addr7 := rfl
@[simp] theorem emit_seq (e : Event) (s : State) : (emit e s).seq = s.seq := rfl
@[simp] theorem emit_fr (e : Event) (s : State) : (emit e s).fr = s.fr := rfl
@[simp] theorem emit_n (e : Event) (s : State) : (emit e s).n = s.n := rfl
@[simp] theorem emit_k (e : Event) (s : State) : (emit e s).k = s.k := rfl
@[simp] theorem emit_rspStatus (e : Event) (s : State) : (emit e s).rspStatus = s.rspStatus := rfl
@[simp] theorem emit_rspErr (e : Event) (s : State) : (emit e s).rspErr = s.rspErr := rfl
@[simp] theorem emit_target (e : Event) (s : State) : (emit e s).target = s.target := rfl
@[simp] theorem emit_log (e : Event) (s : State) : (emit e s).log = s.log ++ [e] := rfl
@[simp] theorem emit_inputs (e : Event) (s : State) : (emit e s).inputs = s.inputs := rfl
@[simp] theorem emit_draws (e : Event) (s : State) : (emit e s).draws = s.draws := rfl

/-! ### consumeInput -/

@[simp] theorem consumeInput_config (s : State) : (consumeInput s).config = s.config := rfl
@[simp] theorem consumeInput_addr7 (s : State) : (consumeInput s).addr7 = s.addr7 := rfl
@[simp] theorem consumeInput_seq (s : State) : (consumeInput s).seq = s.seq := rfl
@[simp] theorem consumeInput_fr (s : State) : (consumeInput s).fr = s.fr := rfl
@[simp] theorem consumeInput_n (s : State) : (consumeInput s).n = s.n := rfl
@[simp] theorem consumeInput_k (s : State) : (consumeInput s).k = s.k := rfl
@[simp] theorem consumeInput_rspStatus (s : State) : (consumeInput s).rspStatus = s.rspStatus := rfl
@[simp] theorem consumeInput_rspErr (s : State) : (consumeInput s).rspErr = s.rspErr := rfl
@[simp] theorem consumeInput_target (s : State) : (consumeInput s).target = s.target := rfl
@[simp] theorem consumeInput_log (s : State) : (consumeInput s).log = s.log := rfl
@[simp] theorem consumeInput_inputs (s : State) : (consumeInput s).inputs = s.inputs.tail := rfl
@[simp] theorem consumeInput_draws (s : State) : (consumeInput s).draws = s.draws := rfl

/-! ### respond -/

@[simp] theorem respond_config (st : Status) (e : Option Err) (s : State) : (respond st e s).config = s.config := rfl
@[simp] theorem respond_addr7 (st : Status) (e : Option Err) (s : State) : (respond st e s).addr7 = s.addr7 := rfl
@[simp] theorem respond_seq (st : Status) (e : Option Err) (s : State) : (respond st e s).seq = .resp := rfl
@[simp] theorem respond_fr (st : Status) (e : Option Err) (s : State) : (respond st e s).fr = s.fr := rfl
@[simp] theorem respond_n (st : Status) (e : Option Err) (s : State) : (respond st e s).n = s.n := rfl
@[simp] theorem respond_k (st : Status) (e : Option Err) (s : State) : (respond st e s).k = s.k := rfl
@[simp] theorem respond_rspStatus (st : Status) (e : Option Err) (s : State) : (respond st e s).rspStatus = st := rfl
@[simp] theorem respond_rspErr (st : Status) (e : Option Err) (s : State) : (respond st e s).rspErr = e.getD s.rspErr := rfl
@[simp] theorem respond_target (st : Status) (e : Option Err) (s : State) : (respond st e s).target = s.target := rfl
@[simp] theorem respond_log (st : Status) (e : Option Err) (s : State) : (respond st e s).log = s.log := rfl
@[simp] theorem respond_inputs (st : Status) (e : Option Err) (s : State) : (respond st e s).inputs = s.inputs := rfl
@[simp] theorem respond_draws (st : Status) (e : Option Err) (s : State) : (respond st e s).draws = s.draws := rfl

/-! ### raiseTransportError -/

@[simp] theorem raiseTransportError_config (e : Err) (s : State) : (raiseTransportError e s).config = s.config := rfl
@[simp] theorem raiseTransportError_addr7 (e : Err) (s : State) : (raiseTransportError e s).addr7 = s.addr7 := rfl
@[simp] theorem raiseTransportError_seq (e : Err) (s : State) : (raiseTransportError e s).seq = .resp := rfl
@[simp] theorem raiseTransportError_fr (e : Err) (s : State) : (raiseTransportError e s).fr = s.fr := rfl
@[simp] theorem raiseTransportError_n (e : Err) (s : State) : (raiseTransportError e s).n = s.n := rfl
@[simp] theorem raiseTransportError_k (e : Err) (s : State) : (raiseTransportError e s).k = s.k := rfl
@[simp] theorem raiseTransportError_rspStatus (e : Err) (s : State) : (raiseTransportError e s).rspStatus = .transportError := rfl
@[simp] theorem raiseTransportError_rspErr (e : Err) (s : State) : (raiseTransportError e s).rspErr = e := rfl
@[simp] theorem raiseTransportError_target (e : Err) (s : State) : (raiseTransportError e s).target = s.target := rfl
@[simp] theorem raiseTransportError_log (e : Err) (s : State) : (raiseTransportError e s).log = s.log := rfl
@[simp] theorem raiseTransportError_inputs (e : Err) (s : State) : (raiseTransportError e s).inputs = s.inputs := rfl
@[simp] theorem raiseTransportError_draws (e : Err) (s : State) : (raiseTransportError e s).draws = s.draws := rfl

/-! ### raiseIllegalRequest -/

@[simp] theorem raiseIllegalRequest_config (s : State) : (raiseIllegalRequest s).config = s.config := rfl
@[simp] theorem raiseIllegalRequest_addr7 (s : State) : (raiseIllegalRequest s).addr7 = s.addr7 := rfl
@[simp] theorem raiseIllegalRequest_seq (s : State) : (raiseIllegalRequest s).seq = .resp := rfl
@[simp] theorem raiseIllegalRequest_fr (s : State) : (raiseIllegalRequest s).fr = s.fr := rfl
@[simp] theorem raiseIllegalRequest_n (s : State) : (raiseIllegalRequest s).n = s.n := rfl
@[simp] theorem raiseIllegalRequest_k (s : State) : (raiseIllegalRequest s).k = s.k := rfl
@[simp] theorem raiseIllegalRequest_rspStatus (s : State) : (raiseIllegalRequest s).rspStatus = .illegalRequest := rfl
@[simp] theorem raiseIllegalRequest_rspErr (s : State) : (raiseIllegalRequest s).rspErr = s.rspErr := rfl
@[simp] theorem raiseIllegalRequest_target (s : State) : (raiseIllegalRequest s).target = s.target := rfl
@[simp] theorem raiseIllegalRequest_log (s : State) : (raiseIllegalRequest s).log = s.log := rfl
@[simp] theorem raiseIllegalRequest_inputs (s : State) : (raiseIllegalRequest s).inputs = s.inputs := rfl
@[simp] theorem raiseIllegalRequest_draws (s : State) : (raiseIllegalRequest s).draws = s.draws := rfl

/-! ### acceptIllegal -/

@[simp] theorem acceptIllegal_config (w : ReqWord) (s : State) : (acceptIllegal w s).config = s.config := rfl
@[simp] theorem acceptIllegal_addr7 (w : ReqWord) (s : State) : (acceptIllegal w s).addr7 = s.addr7 := rfl
@[simp] theorem acceptIllegal_seq (w : ReqWord) (s : State) : (acceptIllegal w s).seq = .resp := rfl
@[simp] theorem acceptIllegal_fr (w : ReqWord) (s : State) : (acceptIllegal w s).fr = s.fr := rfl
@[simp] theorem acceptIllegal_n (w : ReqWord) (s : State) : (acceptIllegal w s).n = s.n := rfl
@[simp] theorem acceptIllegal_k (w : ReqWord) (s : State) : (acceptIllegal w s).k = s.k := rfl
@[simp] theorem acceptIllegal_rspStatus (w : ReqWord) (s : State) : (acceptIllegal w s).rspStatus = .illegalRequest := rfl
@[simp] theorem acceptIllegal_rspErr (w : ReqWord) (s : State) : (acceptIllegal w s).rspErr = s.rspErr := rfl
@[simp] theorem acceptIllegal_target (w : ReqWord) (s : State) : (acceptIllegal w s).target = s.target := rfl
@[simp] theorem acceptIllegal_log (w : ReqWord) (s : State) : (acceptIllegal w s).log = s.log ++ [.accepted w] := rfl
@[simp] theorem acceptIllegal_inputs (w : ReqWord) (s : State) : (acceptIllegal w s).inputs = s.inputs := rfl
@[simp] theorem acceptIllegal_draws (w : ReqWord) (s : State) : (acceptIllegal w s).draws = s.draws := rfl

/-! ### deliver -/

@[simp] theorem deliver_config (s : State) : (deliver s).config = s.config := rfl
@[simp] theorem deliver_addr7 (s : State) : (deliver s).addr7 = s.addr7 := rfl
@[simp] theorem deliver_seq (s : State) : (deliver s).seq = .idle := rfl
@[simp] theorem deliver_fr (s : State) : (deliver s).fr = s.fr := rfl
@[simp] theorem deliver_n (s : State) : (deliver s).n = s.n := rfl
@[simp] theorem deliver_k (s : State) : (deliver s).k = s.k := rfl
@[simp] theorem deliver_rspStatus (s : State) : (deliver s).rspStatus = s.rspStatus := rfl
@[simp] theorem deliver_rspErr (s : State) : (deliver s).rspErr = s.rspErr := rfl
@[simp] theorem deliver_target (s : State) : (deliver s).target = s.target := rfl
@[simp] theorem deliver_log (s : State) : (deliver s).log = s.log ++ [.responded s.rspStatus (responseError s)] := rfl
@[simp] theorem deliver_inputs (s : State) : (deliver s).inputs = s.inputs := rfl
@[simp] theorem deliver_draws (s : State) : (deliver s).draws = s.draws := rfl

/-! ### loadOperation -/

@[simp] theorem loadOperation_config (l : List Command) (s : State) : (loadOperation l s).config = s.config := rfl
@[simp] theorem loadOperation_addr7 (l : List Command) (s : State) : (loadOperation l s).addr7 = s.addr7 := rfl
@[simp] theorem loadOperation_seq (l : List Command) (s : State) : (loadOperation l s).seq = .issue := rfl
@[simp] theorem loadOperation_fr (l : List Command) (s : State) : (loadOperation l s).fr = storeFrames s.fr 0 l := rfl
@[simp] theorem loadOperation_n (l : List Command) (s : State) : (loadOperation l s).n = BitVec.ofNat 3 l.length := rfl
@[simp] theorem loadOperation_k (l : List Command) (s : State) : (loadOperation l s).k = 0 := rfl
@[simp] theorem loadOperation_rspStatus (l : List Command) (s : State) : (loadOperation l s).rspStatus = s.rspStatus := rfl
@[simp] theorem loadOperation_rspErr (l : List Command) (s : State) : (loadOperation l s).rspErr = s.rspErr := rfl
@[simp] theorem loadOperation_target (l : List Command) (s : State) : (loadOperation l s).target = s.target := rfl
@[simp] theorem loadOperation_log (l : List Command) (s : State) : (loadOperation l s).log = s.log := rfl
@[simp] theorem loadOperation_inputs (l : List Command) (s : State) : (loadOperation l s).inputs = s.inputs := rfl
@[simp] theorem loadOperation_draws (l : List Command) (s : State) : (loadOperation l s).draws = s.draws := rfl

/-! ### resetBlock -/

@[simp] theorem resetBlock_config (p : Strap) (s : State) : (resetBlock p s).config = s.config := rfl
@[simp] theorem resetBlock_addr7 (p : Strap) (s : State) : (resetBlock p s).addr7 = addressOf s.config p := rfl
@[simp] theorem resetBlock_seq (p : Strap) (s : State) : (resetBlock p s).seq = .idle := rfl
@[simp] theorem resetBlock_fr (p : Strap) (s : State) : (resetBlock p s).fr = (Config.afterReset s.draws).fr := rfl
@[simp] theorem resetBlock_n (p : Strap) (s : State) : (resetBlock p s).n = (Config.afterReset s.draws).n := rfl
@[simp] theorem resetBlock_k (p : Strap) (s : State) : (resetBlock p s).k = (Config.afterReset s.draws).k := rfl
@[simp] theorem resetBlock_rspStatus (p : Strap) (s : State) : (resetBlock p s).rspStatus = (Config.afterReset s.draws).rspStatus := rfl
@[simp] theorem resetBlock_rspErr (p : Strap) (s : State) : (resetBlock p s).rspErr = (Config.afterReset s.draws).rspErr := rfl
@[simp] theorem resetBlock_target (p : Strap) (s : State) : (resetBlock p s).target = s.target := rfl
@[simp] theorem resetBlock_log (p : Strap) (s : State) : (resetBlock p s).log = s.log ++ [.reset p] := rfl
@[simp] theorem resetBlock_inputs (p : Strap) (s : State) : (resetBlock p s).inputs = s.inputs := rfl
@[simp] theorem resetBlock_draws (p : Strap) (s : State) : (resetBlock p s).draws = s.draws + 1 := rfl

/-! ### frameAcked -/

@[simp] theorem frameAcked_config (s : State) : (frameAcked s).config = s.config := by
  unfold frameAcked; split <;> rfl
@[simp] theorem frameAcked_addr7 (s : State) : (frameAcked s).addr7 = s.addr7 := by
  unfold frameAcked; split <;> rfl
@[simp] theorem frameAcked_fr (s : State) : (frameAcked s).fr = s.fr := by
  unfold frameAcked; split <;> rfl
@[simp] theorem frameAcked_n (s : State) : (frameAcked s).n = s.n := by
  unfold frameAcked; split <;> rfl
@[simp] theorem frameAcked_rspErr (s : State) : (frameAcked s).rspErr = s.rspErr := by
  unfold frameAcked; split <;> rfl
@[simp] theorem frameAcked_target (s : State) : (frameAcked s).target = s.target := by
  unfold frameAcked; split <;> rfl
@[simp] theorem frameAcked_log (s : State) : (frameAcked s).log = s.log ++ [.acked s.k.toNat] := by
  unfold frameAcked; split <;> rfl
@[simp] theorem frameAcked_inputs (s : State) : (frameAcked s).inputs = s.inputs := by
  unfold frameAcked; split <;> rfl
@[simp] theorem frameAcked_draws (s : State) : (frameAcked s).draws = s.draws := by
  unfold frameAcked; split <;> rfl

/-- The last frame ends the operation with OK (R142). -/
theorem frameAcked_last {s : State} (h : s.k.toNat + 1 = s.n.toNat) :
    frameAcked s = respond .ok none (emit (.acked s.k.toNat) s) := by
  unfold frameAcked; rw [if_pos h]

/-- Any other frame moves `K` on (R142). -/
theorem frameAcked_more {s : State} (h : s.k.toNat + 1 ≠ s.n.toNat) :
    frameAcked s = { emit (.acked s.k.toNat) s with k := s.k + 1, seq := .issue } := by
  unfold frameAcked; rw [if_neg h]

end Sys2Proof.Machine
end

