-- ==== Sys2Proof/Laws/Ops.lean ====
section
/-!
SUPPORT. What each shared operation can do, said once: the effect of a frame, the buffer after Accept, Accept
itself, and the case analysis of a step by phase and inputs.
-/

namespace Sys2Proof.Machine

/-! ### Frames at the target -/

/-- A frame has an effect exactly at the 20 addresses of R51. -/
theorem writeTarget_isSome (t : Target) (f : Frame) :
    (writeTarget t f).isSome = true ↔ f.b0 ∈ emittedAddresses := by
  have key : ∀ a : Byte, ((writeTarget t ⟨a, f.b1⟩).isSome = true ↔ a ∈ emittedAddresses) := by
    intro a
    have h : (writeTarget t ⟨a, f.b1⟩).isSome = (writeTarget default ⟨a, 0⟩).isSome := by
      unfold writeTarget; simp only; split <;> rfl
    rw [h]; clear h; revert a; decide
  exact key f.b0

/-- Every Command's register address is one of the 20 (R83). -/
theorem encodeCommand_address (c : Command) : (encodeCommand c).b0 ∈ emittedAddresses := by
  have h : ∀ ch : Channel, channelAddress 0x04 ch ∈ emittedAddresses ∧ channelAddress 0x0A ch ∈ emittedAddresses ∧
      channelAddress 0x10 ch ∈ emittedAddresses ∧ channelAddress 0x16 ch ∈ emittedAddresses := by
    intro ch; cases ch <;> decide
  cases c
  case pwm ch d => exact (h ch).1
  case t0 ch t0 => exact (h ch).2.1
  case t12 ch t1 t2 => exact (h ch).2.2.1
  case t34 ch t3 t4 => exact (h ch).2.2.2
  all_goals simp [encodeCommand, emittedAddresses]

/-- The effect of a frame depends on nothing of the state but the target. -/
theorem landFrame_next {f : Frame} {s t : State} (h : landFrame f s = .next t) :
    ∃ tg, writeTarget s.target f = some tg ∧ t = { s with target := tg } := by
  unfold landFrame at h
  split at h <;> cases h
  exact ⟨_, ‹_›, rfl⟩

theorem landFrame_eq {f : Frame} {s : State} {tg : Target} (h : writeTarget s.target f = some tg) :
    landFrame f s = .next { s with target := tg } := by
  unfold landFrame; rw [h]

/-- A frame that was not acked has its effect or none (R68). -/
theorem mayLandFrame_next {f : Frame} {s t : State} (h : mayLandFrame f s = .next t) :
    ∃ tg, writeTarget s.target f = some tg ∧
      t = { s with target := if Config.frameLands s.draws then tg else s.target, draws := s.draws + 1 } := by
  unfold mayLandFrame at h
  split at h <;> cases h
  exact ⟨_, ‹_›, rfl⟩

theorem mayLandFrame_eq {f : Frame} {s : State} {tg : Target} (h : writeTarget s.target f = some tg) :
    mayLandFrame f s = .next { s with
      target := if Config.frameLands s.draws then tg else s.target, draws := s.draws + 1 } := by
  unfold mayLandFrame; rw [h]

/-! ### The frame buffer -/

theorem holdsFrame_iff (s : State) : holdsFrame s = true ↔ s.k.toNat < s.n.toNat ∧ s.n.toNat ≤ 4 := by
  simp [holdsFrame]

/-- An operation has at most four Commands (R145). -/
theorem expand_length_le (cfg : Config) (i : Instr) : (expand cfg i).length ≤ 4 := by
  cases i
  case setMode mode => cases mode <;> simp [expand, expandSetMode]
  all_goals exact Nat.le_of_ble_eq_true rfl

/-- The buffer after Accept: the encoded Commands, then what stood there before (R140). -/
theorem storeFrames_buffer (fr : FrameBuffer) {l : List Command} (h : l.length ≤ 4) :
    bufferFrames (storeFrames fr 0 l) = l.map encodeCommand ++ (bufferFrames fr).drop l.length := by
  match l, h with
  | [], _ => rfl
  | [_], _ => rfl
  | [_, _], _ => rfl
  | [_, _, _], _ => rfl
  | [_, _, _, _], _ => rfl

/-- `FR[k]` is the k-th frame of the buffer. -/
theorem frameAt_eq_getElem (fr : FrameBuffer) {k : Nat} (h : k < 4) :
    frameAt fr k = (bufferFrames fr)[k]'(by simpa [bufferFrames] using h) := by
  match k, h with
  | 0, _ => rfl
  | 1, _ => rfl
  | 2, _ => rfl
  | 3, _ => rfl

/-- One more acked frame at the end of the acked log (R159 (a)). -/
theorem ackedLog_append (a7 : BusAddr) (k : Nat) (fs : List Frame) (f : Frame) :
    ackedLog a7 k (fs ++ [f]) = ackedLog a7 k fs ++ [.issued a7 f, .acked (k + fs.length)] := by
  induction fs generalizing k with
  | nil => rfl
  | cons g gs ih => simp [ackedLog, ih, Nat.add_assoc, Nat.add_comm 1]

/-! ### Accept -/

theorem accept_busy {req : ReqWord} {l : List Command} {s : State} (h : s.seq ≠ .idle) :
    accept req l s = .next s := by
  unfold accept; rw [if_neg h]

theorem accept_legal {req : ReqWord} {l : List Command} {s : State} (h : s.seq = .idle)
    (hl : legal s.config req = true) :
    accept req l s = .next (loadOperation l (emit (.accepted req) s)) := by
  unfold accept; rw [if_pos h, if_pos hl]

theorem accept_illegal {req : ReqWord} {l : List Command} {s : State} (h : s.seq = .idle)
    (hl : legal s.config req = false) :
    accept req l s = .next (acceptIllegal req s) := by
  unfold accept; rw [if_pos h, hl]; rfl

/-- Every operation is Accept of its request word and its expansion (R140, R145). -/
theorem exec_operation {i : Instr} {w : ReqWord} (s : State) (h : encode i = .req32 w) :
    exec i s = accept w (expand s.config i) s := by
  cases i <;> simp only [encode, commandWord, Encoded.req32.injEq, reduceCtorEq] at h <;> subst h <;> rfl

/-- An instruction has a request word exactly if it is an operation (R90). -/
theorem encode_operation {i : Instr} (h : isOperation i = true) : ∃ w, encode i = .req32 w := by
  cases i <;> simp only [isOperation, Bool.false_eq_true] at h <;> exact ⟨_, rfl⟩

/-! ### Issue, BusErr and Reset -/

/-- Issue logs the frame and waits (R141). -/
theorem issueFrame_next {s t : State} (h : issueFrame s = .next t) :
    holdsFrame s = true ∧ t = { emit (.issued s.addr7 (frameAt s.fr s.k.toNat)) s with seq := .wait } := by
  unfold issueFrame at h
  split at h <;> cases h
  exact ⟨‹_›, rfl⟩

/-- BusErr: the response is the error, and the frame has its effect or none (R143, R68). -/
theorem frameFailed_next {e : Err} {s t : State} (h : frameFailed e s = .next t) :
    holdsFrame s = true ∧ ∃ tg, writeTarget s.target (frameAt s.fr s.k.toNat) = some tg ∧
      t = { raiseTransportError e (emit (.failed s.k.toNat e) s) with
        target := if Config.frameLands s.draws then tg else s.target, draws := s.draws + 1 } := by
  unfold frameFailed at h
  split at h
  · obtain ⟨tg, hw, rfl⟩ := mayLandFrame_next h
    exact ⟨‹_›, tg, hw, rfl⟩
  · cases h

/-- Reset: the block is reset, and in `WAIT` the abandoned frame has its effect or none (R200, R201). -/
theorem resetStep_next {p : PortSample} {s t : State} (h : resetStep p s = .next t) :
    ∃ tg d, t = { resetBlock (strapOf p.strap) s with target := tg, draws := d } ∧
      (tg = s.target ∨ s.seq = .wait ∧ writeTarget s.target (frameAt s.fr s.k.toNat) = some tg) := by
  unfold resetStep at h
  split at h
  · split at h
    · split at h
      · obtain ⟨tg, hw, rfl⟩ := mayLandFrame_next h
        refine ⟨_, _, rfl, ?_⟩
        split
        · exact .inr ⟨‹_›, hw⟩
        · exact .inl rfl
      · cases h
    · cases h
  · cases h; exact ⟨_, _, rfl, .inl rfl⟩

/-! ### A step -/

/-- What a step that answers a next state can be (R140 to R144, R156, R200, R201). -/
theorem step_next_cases {s t : State} (h : step s = .next t) :
    ((portsNow s).rst = true ∧ resetStep (portsNow s) (consumeInput s) = .next t) ∨
    ((portsNow s).rst = false ∧
      ((s.seq = .idle ∧ (portsNow s).reqValid = false ∧ t = consumeInput s) ∨
       (s.seq = .idle ∧ (portsNow s).reqValid = true ∧
          (∃ r, decodeRequest s.config (portsNow s).reqWord = .error r) ∧
          t = acceptIllegal (portsNow s).reqWord (consumeInput s)) ∨
       (s.seq = .idle ∧ (portsNow s).reqValid = true ∧
          ∃ i, decodeRequest s.config (portsNow s).reqWord = .ok i ∧ exec i (consumeInput s) = .next t) ∨
       (s.seq = .issue ∧ issueFrame (consumeInput s) = .next t) ∨
       (s.seq = .wait ∧ (portsNow s).busRspValid = false ∧ t = consumeInput s) ∨
       (s.seq = .wait ∧ (portsNow s).busRspValid = true ∧ (portsNow s).busRspOk = true ∧
          holdsFrame s = true ∧
          ((∃ i, decodeFrame (frameAt s.fr s.k.toNat) = .ok i ∧
              exec i (frameAcked (consumeInput s)) = .next t) ∨
           ((∃ r, decodeFrame (frameAt s.fr s.k.toNat) = .error r) ∧
              landFrame (frameAt s.fr s.k.toNat) (frameAcked (consumeInput s)) = .next t))) ∨
       (s.seq = .wait ∧ (portsNow s).busRspValid = true ∧ (portsNow s).busRspOk = false ∧
          frameFailed (portsNow s).busRspErr (consumeInput s) = .next t) ∨
       (s.seq = .resp ∧ (portsNow s).rspReady = false ∧ t = consumeInput s) ∨
       (s.seq = .resp ∧ (portsNow s).rspReady = true ∧ t = deliver (consumeInput s)))) := by
  unfold step nextAction at h
  cases hr : (portsNow s).rst
  case true => rw [hr] at h; exact .inl ⟨rfl, h⟩
  refine .inr ⟨rfl, ?_⟩
  simp only [hr, Bool.false_eq_true, if_false] at h
  cases hq : s.seq <;> simp only [hq] at h
  case idle =>
    unfold idleAction at h
    cases hv : (portsNow s).reqValid <;> simp only [hv, Bool.false_eq_true, if_false, if_true] at h
    case false => cases h; exact .inl ⟨rfl, rfl, rfl⟩
    cases hd : decodeRequest (consumeInput s).config (portsNow s).reqWord <;> simp only [hd] at h
    case error r => cases h; exact .inr (.inl ⟨rfl, rfl, ⟨r, hd⟩, rfl⟩)
    case ok i => exact .inr (.inr (.inl ⟨rfl, rfl, i, hd, h⟩))
  case issue => exact .inr (.inr (.inr (.inl ⟨rfl, h⟩)))
  case wait =>
    unfold waitAction at h
    cases hv : (portsNow s).busRspValid <;> simp only [hv, Bool.false_eq_true, if_false, if_true] at h
    case false => cases h; exact .inr (.inr (.inr (.inr (.inl ⟨rfl, rfl, rfl⟩))))
    cases ho : (portsNow s).busRspOk <;> simp only [ho, Bool.false_eq_true, if_false, if_true] at h
    case false => exact .inr (.inr (.inr (.inr (.inr (.inr (.inl ⟨rfl, rfl, rfl, h⟩))))))
    unfold ackAction at h
    cases hf : holdsFrame (consumeInput s) <;> simp only [hf, Bool.false_eq_true, if_false, if_true] at h
    case false => cases h
    refine .inr (.inr (.inr (.inr (.inr (.inl ⟨rfl, rfl, rfl, hf, ?_⟩)))))
    cases hd : decodeFrame (frameAt (consumeInput s).fr (consumeInput s).k.toNat) <;> simp only [hd] at h
    case error r => exact .inr ⟨⟨r, hd⟩, h⟩
    case ok i => exact .inl ⟨i, hd, h⟩
  case resp =>
    unfold respAction at h
    cases hv : (portsNow s).rspReady <;> simp only [hv, Bool.false_eq_true, if_false, if_true] at h
    case false => cases h; exact .inr (.inr (.inr (.inr (.inr (.inr (.inr (.inl ⟨rfl, rfl, rfl⟩)))))))
    case true => cases h; exact .inr (.inr (.inr (.inr (.inr (.inr (.inr (.inr ⟨rfl, rfl, rfl⟩)))))))

/-! ### Runs -/

theorem run_next {j : Nat} {s t : State} (h : step s = .next t) :
    Host.Core.run core (j + 1) s = Host.Core.run core j t := by
  have e : core.step s = .next t := h
  simp only [Host.Core.run, e]

theorem run_fault {j : Nat} {s : State} {r : Fault} (h : step s = .fault r) :
    Host.Core.run core (j + 1) s = .fault r := by
  have e : core.step s = .fault r := h
  simp only [Host.Core.run, e]

theorem run_refused {j : Nat} {s : State} {r : Refusal} (h : step s = .refused r) :
    Host.Core.run core (j + 1) s = .refused r := by
  have e : core.step s = .refused r := h
  simp only [Host.Core.run, e]

/-- The samples of one more acked frame stand at the end. -/
theorem ackedFrames_succ (n : Nat) : ackedFrames (n + 1) = ackedFrames n ++ [PortSample.quiet, ackSample] := by
  induction n with
  | zero => rfl
  | succ n ih =>
    show PortSample.quiet :: ackSample :: ackedFrames (n + 1)
      = PortSample.quiet :: ackSample :: (ackedFrames n ++ [PortSample.quiet, ackSample])
    rw [ih]

end Sys2Proof.Machine
end

