-- ==== Sys2Proof/Laws/PerInstr.lean ====
section
/-!
SUPPORT. Per-instruction laws. Family `TableRow`: the encoding of an instruction has the length of its row of
spec/opcode_table.json (30_encoding.md rule R80) and the row's fixed bits, written here as the table writes them
(high bit, low bit, value); the operand bits are free.
-/

namespace Sys2Proof.Laws.TableRow

/-- The row's length in bits (R80). -/
def length : Encoded → Nat
  | .req32 _ => 32
  | .frame16 _ => 16

/-- Bits `hi` to `lo` of an encoding, as a number (R8). -/
def bits (hi lo : Nat) : Encoded → Nat
  | .req32 w => (field w lo (hi - lo + 1)).toNat
  | .frame16 w => (field w lo (hi - lo + 1)).toNat

/-- The fixed bits of the instruction's row: (high bit, low bit, value). -/
def fixed : Instr → List (Nat × Nat × Nat)
  | .setMaxCurrent _ => [(31, 6, 0x0)]
  | .setPwm _ _ _ => [(31, 24, 0x10)]
  | .setPwmLed1 _ => [(31, 8, 0x200000)]
  | .setPwmLed2 _ => [(31, 8, 0x300000)]
  | .setPwmLed3 _ => [(31, 8, 0x400000)]
  | .setTiming _ _ _ _ _ _ => [(7, 7, 0x0), (15, 15, 0x0), (23, 20, 0x0), (31, 26, 0x14)]
  | .setMode _ => [(3, 1, 0x0), (7, 6, 0x0), (11, 9, 0x0), (31, 14, 0x18000)]
  | .shutdown _ _ => [(4, 1, 0x0), (31, 6, 0x1C00000)]
  | .setLedPower _ _ _ => [(31, 3, 0x10000000)]
  | .reset => [(31, 0, 0x90000000)]
  | .cmdShutdown _ _ => [(4, 1, 0x0), (15, 6, 0x0)]
  | .cmdBreathCtrl _ _ _ _ => [(3, 3, 0x0), (15, 6, 0x4)]
  | .cmdLedMode _ => [(4, 0, 0x0), (15, 6, 0x8)]
  | .cmdCurrent _ => [(1, 0, 0x0), (15, 8, 0x3)]
  | .cmdPwm0 _ => [(15, 8, 0x4)]
  | .cmdPwm1 _ => [(15, 8, 0x5)]
  | .cmdPwm2 _ => [(15, 8, 0x6)]
  | .cmdPwmUpdate => [(15, 0, 0x700)]
  | .cmdTimeZero0 _ => [(3, 0, 0x0), (15, 8, 0xA)]
  | .cmdTimeZero1 _ => [(3, 0, 0x0), (15, 8, 0xB)]
  | .cmdTimeZero2 _ => [(3, 0, 0x0), (15, 8, 0xC)]
  | .cmdTimeOneTwo0 _ _ => [(0, 0, 0x0), (15, 8, 0x10)]
  | .cmdTimeOneTwo1 _ _ => [(0, 0, 0x0), (15, 8, 0x11)]
  | .cmdTimeOneTwo2 _ _ => [(0, 0, 0x0), (15, 8, 0x12)]
  | .cmdTimeThreeFour0 _ _ => [(0, 0, 0x0), (15, 8, 0x16)]
  | .cmdTimeThreeFour1 _ _ => [(0, 0, 0x0), (15, 8, 0x17)]
  | .cmdTimeThreeFour2 _ _ => [(0, 0, 0x0), (15, 8, 0x18)]
  | .cmdTimeUpdate => [(15, 0, 0x1C00)]
  | .cmdLedControl _ _ _ => [(15, 3, 0x3A0)]
  | .cmdReset => [(15, 0, 0x2F00)]

/-- The length of the instruction's row. -/
def rowLength : Instr → Nat
  | .setMaxCurrent _ => 32
  | .setPwm _ _ _ => 32
  | .setPwmLed1 _ => 32
  | .setPwmLed2 _ => 32
  | .setPwmLed3 _ => 32
  | .setTiming _ _ _ _ _ _ => 32
  | .setMode _ => 32
  | .shutdown _ _ => 32
  | .setLedPower _ _ _ => 32
  | .reset => 32
  | .cmdShutdown _ _ => 16
  | .cmdBreathCtrl _ _ _ _ => 16
  | .cmdLedMode _ => 16
  | .cmdCurrent _ => 16
  | .cmdPwm0 _ => 16
  | .cmdPwm1 _ => 16
  | .cmdPwm2 _ => 16
  | .cmdPwmUpdate => 16
  | .cmdTimeZero0 _ => 16
  | .cmdTimeZero1 _ => 16
  | .cmdTimeZero2 _ => 16
  | .cmdTimeOneTwo0 _ _ => 16
  | .cmdTimeOneTwo1 _ _ => 16
  | .cmdTimeOneTwo2 _ _ => 16
  | .cmdTimeThreeFour0 _ _ => 16
  | .cmdTimeThreeFour1 _ _ => 16
  | .cmdTimeThreeFour2 _ _ => 16
  | .cmdTimeUpdate => 16
  | .cmdLedControl _ _ _ => 16
  | .cmdReset => 16

/-- The encoding is a word of the instruction's row. -/
def Statement (i : Instr) : Prop :=
  length (encode i) = rowLength i ∧ ∀ r ∈ fixed i, bits r.1 r.2.1 (encode i) = r.2.2

theorem setMaxCurrent (cs : BitVec 6) :
    Statement (.setMaxCurrent cs) := by
  simp (disch := omega) only [Statement, length, encode, rowLength, bits, fixed, requestSetMaxCurrent,
    List.forall_mem_cons, field_append_high]
  exact ⟨trivial, rfl, nofun⟩

theorem setPwm (r g b : Byte) :
    Statement (.setPwm r g b) := by
  simp (disch := omega) only [Statement, length, encode, rowLength, bits, fixed, requestSetPwm,
    List.forall_mem_cons, field_append_high]
  exact ⟨trivial, rfl, nofun⟩

theorem setPwmLed1 (v : Byte) :
    Statement (.setPwmLed1 v) := by
  simp (disch := omega) only [Statement, length, encode, rowLength, bits, fixed, requestSetPwmLed1,
    List.forall_mem_cons, field_append_high]
  exact ⟨trivial, rfl, nofun⟩

theorem setPwmLed2 (v : Byte) :
    Statement (.setPwmLed2 v) := by
  simp (disch := omega) only [Statement, length, encode, rowLength, bits, fixed, requestSetPwmLed2,
    List.forall_mem_cons, field_append_high]
  exact ⟨trivial, rfl, nofun⟩

theorem setPwmLed3 (v : Byte) :
    Statement (.setPwmLed3 v) := by
  simp (disch := omega) only [Statement, length, encode, rowLength, bits, fixed, requestSetPwmLed3,
    List.forall_mem_cons, field_append_high]
  exact ⟨trivial, rfl, nofun⟩

theorem setTiming (ch : Channel) (t0 : BitVec 4) (t1 : BitVec 3) (t2 : BitVec 4) (t3 : BitVec 3) (t4 : BitVec 4) :
    Statement (.setTiming ch t0 t1 t2 t3 t4) := by
  simp (disch := omega) only [Statement, length, encode, rowLength, bits, fixed, requestSetTiming,
    List.forall_mem_cons, field_append_high, field_append_low]
  exact ⟨trivial, rfl, rfl, rfl, rfl, nofun⟩

theorem setMode (mode : Mode) :
    Statement (.setMode mode) := by
  unfold Statement; rcases mode with _ | ⟨sm, _ | ch⟩
  · decide
  · cases sm <;> decide
  · cases sm <;> cases ch <;> decide

theorem shutdown (en ssd : BitVec 1) :
    Statement (.shutdown en ssd) := by
  unfold Statement; decide +revert

theorem setLedPower (l1 l2 l3 : BitVec 1) :
    Statement (.setLedPower l1 l2 l3) := by
  unfold Statement; decide +revert

theorem reset :
    Statement (.reset) := by
  unfold Statement; decide

theorem cmdShutdown (en ssd : BitVec 1) :
    Statement (.cmdShutdown en ssd) := by
  unfold Statement; decide +revert

theorem cmdBreathCtrl (rm ht bme : BitVec 1) (css : Channel) :
    Statement (.cmdBreathCtrl rm ht bme css) := by
  unfold Statement; cases css <;> decide +revert

theorem cmdLedMode (bm : BitVec 1) :
    Statement (.cmdLedMode bm) := by
  unfold Statement; decide +revert

theorem cmdCurrent (cs : BitVec 6) :
    Statement (.cmdCurrent cs) := by
  unfold Statement; decide +revert

theorem cmdPwm0 (d : Byte) :
    Statement (.cmdPwm0 d) := by
  unfold Statement; decide +revert

theorem cmdPwm1 (d : Byte) :
    Statement (.cmdPwm1 d) := by
  unfold Statement; decide +revert

theorem cmdPwm2 (d : Byte) :
    Statement (.cmdPwm2 d) := by
  unfold Statement; decide +revert

theorem cmdPwmUpdate :
    Statement (.cmdPwmUpdate) := by
  unfold Statement; decide

theorem cmdTimeZero0 (t0 : BitVec 4) :
    Statement (.cmdTimeZero0 t0) := by
  unfold Statement; decide +revert

theorem cmdTimeZero1 (t0 : BitVec 4) :
    Statement (.cmdTimeZero1 t0) := by
  unfold Statement; decide +revert

theorem cmdTimeZero2 (t0 : BitVec 4) :
    Statement (.cmdTimeZero2 t0) := by
  unfold Statement; decide +revert

theorem cmdTimeOneTwo0 (t1 : BitVec 3) (t2 : BitVec 4) :
    Statement (.cmdTimeOneTwo0 t1 t2) := by
  unfold Statement; decide +revert

theorem cmdTimeOneTwo1 (t1 : BitVec 3) (t2 : BitVec 4) :
    Statement (.cmdTimeOneTwo1 t1 t2) := by
  unfold Statement; decide +revert

theorem cmdTimeOneTwo2 (t1 : BitVec 3) (t2 : BitVec 4) :
    Statement (.cmdTimeOneTwo2 t1 t2) := by
  unfold Statement; decide +revert

theorem cmdTimeThreeFour0 (t3 : BitVec 3) (t4 : BitVec 4) :
    Statement (.cmdTimeThreeFour0 t3 t4) := by
  unfold Statement; decide +revert

theorem cmdTimeThreeFour1 (t3 : BitVec 3) (t4 : BitVec 4) :
    Statement (.cmdTimeThreeFour1 t3 t4) := by
  unfold Statement; decide +revert

theorem cmdTimeThreeFour2 (t3 : BitVec 3) (t4 : BitVec 4) :
    Statement (.cmdTimeThreeFour2 t3 t4) := by
  unfold Statement; decide +revert

theorem cmdTimeUpdate :
    Statement (.cmdTimeUpdate) := by
  unfold Statement; decide

theorem cmdLedControl (l1 l2 l3 : BitVec 1) :
    Statement (.cmdLedControl l1 l2 l3) := by
  unfold Statement; decide +revert

theorem cmdReset :
    Statement (.cmdReset) := by
  unfold Statement; decide

end Sys2Proof.Laws.TableRow
end

