-- ==== Sys2Proof/Tests/Slice0.lean ====
section
/-!
SUPPORT. Tests. Expected values are those of spec/95_test_vectors.md (D1 to D27, E1 to E32, X1 to X25, S1 to S11, T1
to T5) or are worked out by hand from the rule named. A theorem `test_witness_<Name>` shows inputs that meet the
hypotheses of the statement of that name, clause by clause.
-/

namespace Sys2Proof.Tests

open Sys2Proof.Machine Host

/-! ### Helpers -/

/-- A state in `IDLE` right after reset, with every chip register 0. -/
def idleState : State :=
  { State.reset with target := default }

/-- The four frames of `SET_PWM 10, 20, 30` (V1). -/
def pwmFrames : FrameBuffer :=
  ⟨⟨0x04, 0x0A⟩, ⟨0x05, 0x14⟩, ⟨0x06, 0x1E⟩, ⟨0x07, 0x00⟩⟩

/-- `SET_PWM 10, 20, 30` in flight at frame `k`, with one input sample to come. -/
def inFlight (seq : Phase) (k : BitVec 2) (p : PortSample) : State :=
  { idleState with seq := seq, fr := pwmFrames, n := 4, k := k, inputs := [p] }

/-- `SET_PWM 10, 20, 30` accepted and its first frame issued, with the log that says so (R27). -/
def waiting (p : PortSample) : State :=
  { inFlight .wait 0 p with
    log := [.reset .gnd, .accepted 0x101E140A, .issued 0x68 ⟨0x04, 0x0A⟩] }

/-- A response ready to be taken. -/
def responding (st : Status) (p : PortSample) : State :=
  { idleState with seq := .resp, rspStatus := st, rspErr := ⟨7⟩, inputs := [p] }

/-- A sample with `rst` and the strap `SCL`. -/
def resetSample (transport : Bool) : PortSample :=
  { PortSample.quiet with rst := true, transportRst := transport, strap := 0b10 }

/-- The next state, if there is one. -/
def nextOf : Result → Option State
  | .next t => some t
  | .fault _ => none
  | .refused _ => none

/-! ### Decoding: words written from the encodings -/

/-- D1 -/
theorem test_decode_setMaxCurrent :
    decodeTableWord 32 0b00000000000000000000000000000100 = some (.setMaxCurrent 4) := by decide
/-- D3 -/
theorem test_decode_setPwm :
    decodeTableWord 32 0b00010000000111100001010000001010 = some (.setPwm 10 20 30) := by decide
/-- D6 -/
theorem test_decode_setPwmLed1 : decodeTableWord 32 0x200000FF = some (.setPwmLed1 255) := by decide
/-- D8 -/
theorem test_decode_setPwmLed2 : decodeTableWord 32 0x30000080 = some (.setPwmLed2 0x80) := by decide
/-- D9 -/
theorem test_decode_setPwmLed3 : decodeTableWord 32 0x40000001 = some (.setPwmLed3 1) := by decide
/-- D12, and D10 -/
theorem test_decode_setTiming :
    decodeTableWord 32 0b01010010000010000001011100110101 = some (.setTiming .led3 5 3 7 1 8) ∧
    decodeTableWord 32 0x51000002 = some (.setTiming .led2 2 0 0 0 0) := by decide
/-- D14 to D19 -/
theorem test_decode_setMode :
    decodeTableWord 32 0x60000000 = some (.setMode .pwm) ∧
    decodeTableWord 32 0x60000001 = some (.setMode (.breathing .auto .none)) ∧
    decodeTableWord 32 0b01100000000000000010000100010001 = some (.setMode (.breathing .oneCycle (.on .led3))) ∧
    decodeTableWord 32 0x60001101 = some (.setMode (.breathing .auto (.on .led2))) ∧
    decodeTableWord 32 0x60000101 = some (.setMode (.breathing .auto (.on .led1))) ∧
    decodeTableWord 32 0x60000021 = some (.setMode (.breathing .rampToOn .none)) := by decide
/-- D21, D22 -/
theorem test_decode_shutdown :
    decodeTableWord 32 0x70000020 = some (.shutdown 1 0) ∧
    decodeTableWord 32 0x70000001 = some (.shutdown 0 1) := by decide
/-- D25; R99 for the second -/
theorem test_decode_setLedPower :
    decodeTableWord 32 0x80000005 = some (.setLedPower 1 0 1) ∧
    decodeTableWord 32 0x80000001 = some (.setLedPower 1 0 0) := by decide
/-- D27 -/
theorem test_decode_reset : decodeTableWord 32 0x90000000 = some .reset := by decide
/-- R120: en at bit 5, ssd at bit 0 -/
theorem test_decode_cmdShutdown :
    decodeTableWord 16 0b0000000000100000 = some (.cmdShutdown 1 0) ∧
    decodeTableWord 16 0x0001 = some (.cmdShutdown 0 1) := by decide
/-- R121's example (0x01, 0x25), and E8 -/
theorem test_decode_cmdBreathCtrl :
    decodeTableWord 16 0b0000000100100101 = some (.cmdBreathCtrl 1 0 1 .led2) ∧
    decodeTableWord 16 0x0130 = some (.cmdBreathCtrl 1 1 0 .led1) := by decide
/-- E10 -/
theorem test_decode_cmdLedMode : decodeTableWord 16 0x0220 = some (.cmdLedMode 1) := by decide
/-- E12, E13 -/
theorem test_decode_cmdCurrent :
    decodeTableWord 16 0x0310 = some (.cmdCurrent 4) ∧ decodeTableWord 16 0x03FC = some (.cmdCurrent 63) := by decide
/-- E14 -/
theorem test_decode_cmdPwm0 : decodeTableWord 16 0x0400 = some (.cmdPwm0 0) := by decide
/-- E15 -/
theorem test_decode_cmdPwm1 : decodeTableWord 16 0x05FF = some (.cmdPwm1 255) := by decide
/-- E16 -/
theorem test_decode_cmdPwm2 : decodeTableWord 16 0x0680 = some (.cmdPwm2 0x80) := by decide
/-- E17 -/
theorem test_decode_cmdPwmUpdate : decodeTableWord 16 0x0700 = some .cmdPwmUpdate := by decide
/-- E18; t0 = 1 sits at bit 4 (R85) -/
theorem test_decode_cmdTimeZero0 :
    decodeTableWord 16 0x0A00 = some (.cmdTimeZero0 0) ∧ decodeTableWord 16 0x0A10 = some (.cmdTimeZero0 1) := by decide
/-- E19 -/
theorem test_decode_cmdTimeZero1 : decodeTableWord 16 0x0B20 = some (.cmdTimeZero1 2) := by decide
/-- E20 -/
theorem test_decode_cmdTimeZero2 : decodeTableWord 16 0x0CF0 = some (.cmdTimeZero2 15) := by decide
/-- E21 -/
theorem test_decode_cmdTimeOneTwo0 : decodeTableWord 16 0x10FE = some (.cmdTimeOneTwo0 7 15) := by decide
/-- E22 -/
theorem test_decode_cmdTimeOneTwo1 : decodeTableWord 16 0b0001000100100010 = some (.cmdTimeOneTwo1 1 1) := by decide
/-- E23 -/
theorem test_decode_cmdTimeOneTwo2 : decodeTableWord 16 0x1210 = some (.cmdTimeOneTwo2 0 8) := by decide
/-- E24; t4 = 1 sits at bit 1 (R85) -/
theorem test_decode_cmdTimeThreeFour0 :
    decodeTableWord 16 0x1600 = some (.cmdTimeThreeFour0 0 0) ∧
    decodeTableWord 16 0x1602 = some (.cmdTimeThreeFour0 0 1) := by decide
/-- E26 -/
theorem test_decode_cmdTimeThreeFour1 : decodeTableWord 16 0x17E2 = some (.cmdTimeThreeFour1 7 1) := by decide
/-- E25 -/
theorem test_decode_cmdTimeThreeFour2 : decodeTableWord 16 0x1870 = some (.cmdTimeThreeFour2 3 8) := by decide
/-- E27 -/
theorem test_decode_cmdTimeUpdate : decodeTableWord 16 0x1C00 = some .cmdTimeUpdate := by decide
/-- E28; R130 for the second -/
theorem test_decode_cmdLedControl :
    decodeTableWord 16 0x1D05 = some (.cmdLedControl 1 0 1) ∧
    decodeTableWord 16 0x1D01 = some (.cmdLedControl 1 0 0) := by decide
/-- E32 -/
theorem test_decode_cmdReset : decodeTableWord 16 0x2F00 = some .cmdReset := by decide

/-- X1 to X25: the illegal words. -/
theorem test_illegal_words :
    ([0xA0000000, 0xF0000000, 0x00000005, 0x0000003F, 0x00000040, 0x11000000, 0x1F000000, 0x18000000, 0x20000100,
      0x40800001, 0x53000000, 0x5000000B, 0x50090000, 0x50000080, 0x50008000, 0x50100000, 0x60000031, 0x60003101,
      0x60000100, 0x60000010, 0x60001001, 0x60000002, 0x70000002, 0x80000008, 0x90000001] : List ReqWord).all
      (fun w => !legal Config.default w && (decodeTableWord 32 w.toNat).isNone) = true := by decide

/-- R51, R85: an address that is no register, a payload bit the layout leaves 0, `css` 3. -/
theorem test_frames_outside_the_catalogue :
    decodeFrame ⟨0x08, 0⟩ = .error .unknownRegister ∧ decodeFrame ⟨0x30, 0⟩ = .error .unknownRegister ∧
    decodeFrame ⟨0x07, 1⟩ = .error .payloadNotEncodable ∧ decodeFrame ⟨0x10, 1⟩ = .error .payloadNotEncodable ∧
    decodeFrame ⟨0x01, 3⟩ = .error .payloadNotEncodable := by decide

/-! ### The assembler -/

/-- D3, D10, D11, D16, D19, D14, D8, D25, D27, X3 in the syntax of R107, three rejected operands, and R107's Command
example. -/
theorem test_assemble :
    assemble Config.default "SET_PWM 10, 20, 30" = .ok 0x101E140A ∧
    assemble Config.default "SET_TIMING Led2, T0::MS260, T1::MS130, T2::MS0, T3::MS130, T4::MS0" = .ok 0x51000002 ∧
    assemble Config.default "SET_TIMING Led1, 10, 7, 8, 7, 8" = .ok 0x5008787A ∧
    assemble Config.default "SET_MODE BREATHING ONE_CYCLE, ON(Led3)" = .ok 0x60002111 ∧
    assemble Config.default "SET_MODE BREATHING RAMP_TO_ON, NONE" = .ok 0x60000021 ∧
    assemble Config.default "SET_MODE PWM" = .ok 0x60000000 ∧
    assemble Config.default "SET_PWM_LED2 0x80" = .ok 0x30000080 ∧
    assemble Config.default "SET_LED_POWER 1, 0, 1" = .ok 0x80000005 ∧
    assemble Config.default "RESET" = .ok 0x90000000 ∧
    assemble Config.default "SET_MAX_CURRENT 5" = .error .codeOutsideLegalSet ∧
    assemble Config.default "SET_PWM_LED1 256" = .error .operandTooWide ∧
    assemble Config.default "SET_TIMING Led4, 0, 0, 0, 0, 0" = .error .syntaxError ∧
    tokenize [] "CMD_T12(1) t1=0, t2=0".toList = some (commandTokens (.t12 .led2 0 0)) := by decide

/-! ### WellFormed: an ill-formed term for each check -/

theorem test_wellFormed_refuses_current :
    (Instr.setMaxCurrent 5).wellFormed Config.default = false ∧
    (Instr.setMaxCurrent 4).wellFormed Config.default = true := by decide
/-- T1 and T3 codes are all legal by default, so their checks need a smaller set. -/
theorem test_wellFormed_refuses_timing :
    (Instr.setTiming .led1 11 0 0 0 0).wellFormed Config.default = false ∧
    (Instr.setTiming .led1 0 7 0 0 0).wellFormed { Config.default with t1Legal := [0] } = false ∧
    (Instr.setTiming .led1 0 0 9 0 0).wellFormed Config.default = false ∧
    (Instr.setTiming .led1 0 0 0 7 0).wellFormed { Config.default with t3Legal := [0] } = false ∧
    (Instr.setTiming .led1 0 0 0 0 9).wellFormed Config.default = false ∧
    (Instr.setTiming .led1 10 7 8 7 8).wellFormed Config.default = true := by decide
theorem test_config_refuses_shared_address :
    Config.default.wellFormed = true ∧
    { Config.default with addrTable := { gnd := 0x68, vcc := 0x6B, scl := 0x68, sda := 0x6A } }.wellFormed = false := by
  decide
theorem test_config_refuses_missing_pinned_code :
    { Config.default with t0Legal := [0, 1] }.wellFormed = false ∧
    { Config.default with t1Legal := [1] }.wellFormed = false ∧
    { Config.default with t2Legal := [1] }.wellFormed = false ∧
    { Config.default with t3Legal := [1] }.wellFormed = false ∧
    { Config.default with t4Legal := [1] }.wellFormed = false := by decide

/-! ### One step -/

/-- D16: the two frames of `SET_MODE BREATHING ONE_CYCLE, ON(Led3)`. -/
theorem test_setMode_frames :
    framesOf Config.default (.setMode (.breathing .oneCycle (.on .led3))) = [⟨0x02, 0x20⟩, ⟨0x01, 0x36⟩] := by decide
/-- D15 with `NOMARK_CSS` = 2. -/
theorem test_setMode_noMark :
    framesOf { Config.default with noMarkCss := .led3 } (.setMode (.breathing .auto .none))
      = [⟨0x02, 0x20⟩, ⟨0x01, 0x02⟩] := by decide
/-- D8, D9 with and without `PWM_SETTER_COMPAT`. -/
theorem test_setter_compat :
    framesOf Config.default (.setPwmLed2 0x80) = [⟨0x05, 0x80⟩, ⟨0x07, 0x00⟩] ∧
    framesOf Config.default (.setPwmLed3 1) = [⟨0x06, 0x01⟩, ⟨0x07, 0x00⟩] ∧
    framesOf { Config.default with pwmSetterCompat := true } (.setPwmLed2 0x80) = [⟨0x04, 0x80⟩, ⟨0x07, 0x00⟩] ∧
    framesOf { Config.default with pwmSetterCompat := true } (.setPwmLed3 1) = [⟨0x04, 0x01⟩, ⟨0x07, 0x00⟩] := by decide
/-- D12: every field distinct. -/
theorem test_setTiming_frames :
    framesOf Config.default (.setTiming .led3 5 3 7 1 8)
      = [⟨0x0C, 0x50⟩, ⟨0x12, 0x6E⟩, ⟨0x18, 0x30⟩, ⟨0x1C, 0x00⟩] := by decide
/-- V1: Accept of 0x101E140A from the state after reset. -/
theorem test_accept_setPwm :
    (nextOf (step (placeRequest 0x101E140A State.reset))).map (fun t => (t.fr, t.n, t.k, t.seq))
      = some (pwmFrames, 4, 0, .issue) := by decide
/-- P4: Accept of 0xA0000000. -/
theorem test_accept_reserved_opcode :
    (nextOf (step (placeRequest 0xA0000000 State.reset))).map (fun t => (t.rspStatus, t.seq))
      = some (.illegalRequest, .resp) := by decide
/-- S2: the second frame goes to 0x68. -/
theorem test_issue_second_frame :
    (nextOf (step (inFlight .issue 1 .quiet))).map (fun t => (t.log.getLast?, t.seq))
      = some (some (.issued 0x68 ⟨0x05, 0x14⟩), .wait) := by decide
/-- S5: the ack of the apply ends the operation with OK, and the raw duties are in effect (T2). -/
theorem test_ack_apply :
    (nextOf (step { inFlight .wait 3 ackSample with target := { (default : Target) with rawPwm := ⟨1, 0x40, 3⟩ } })).map
        (fun t => (t.target.actPwm, t.rspStatus, t.seq))
      = some (⟨1, 0x40, 3⟩, .ok, .resp) := by decide
/-- T1: a duty goes to the raw register alone. -/
theorem test_ack_duty :
    (nextOf (step (inFlight .wait 1 ackSample))).map (fun t => (t.target.rawPwm, t.target.actPwm, t.k))
      = some (⟨0, 0x14, 0⟩, ⟨0, 0, 0⟩, 2) := by decide
/-- S4, S11: the error value is carried unmodified. -/
theorem test_fail_last_frame :
    (nextOf (step (inFlight .wait 3 (failSample ⟨99⟩)))).map (fun t => (t.rspErr, t.rspStatus, t.seq, t.log.getLast?))
      = some (⟨99⟩, .transportError, .resp, some (.failed 3 ⟨99⟩)) := by decide
/-- S8: reset while `SEQ = ISSUE` with strap SCL. -/
theorem test_reset_abandons :
    (nextOf (step (inFlight .issue 1 (resetSample false)))).map (fun t => (t.addr7, t.seq, t.log.getLast?))
      = some (0x69, .idle, some (.reset .scl)) := by decide
/-- S10: no answer, no event. -/
theorem test_no_answer :
    (nextOf (step (inFlight .wait 0 .quiet))).map (fun t => (t.seq, t.log)) = some (.wait, [.reset .gnd]) := by decide
/-- The placed frame 0x0B20 is run by the very next step (E19, T4's frame answered OK). -/
theorem test_placed_frame :
    (nextOf (step (idleState.withFetchWord 16 0x0B20))).map (fun t => t.target.rawT0) = some ⟨0, 0x20, 0⟩ := by decide

/-! ### Witnesses of the hypotheses -/

theorem test_witness_EncodeThenDecode :
    (Instr.setTiming .led3 10 7 8 7 8).wellFormed Config.default = true ∧
    (Instr.cmdTimeThreeFour2 7 15).wellFormed Config.default = true := by decide
theorem test_witness_DecodeThenEncode :
    decode Config.default (.req32 0x5008787A) = .ok (.setTiming .led1 10 7 8 7 8) ∧
    decode Config.default (.frame16 0x10FE) = .ok (.cmdTimeOneTwo0 7 15) := by decide
theorem test_witness_ReservedOpcodesSelectNothing :
    0xA ≤ ((0xA0000000 : ReqWord).extractLsb' 28 4).toNat ∧ 0xA ≤ ((0xFFFFFFFF : ReqWord).extractLsb' 28 4).toNat := by
  decide
/-- X5, X6, X9, X10, X14, X22, X23, X24, X25, and bit 8 of SET_PWM_LED2. -/
theorem test_witness_ReservedBitMakesIllegal :
    ([0x00000040, 0x11000000, 0x20000100, 0x30000100, 0x40800001, 0x50000080, 0x60000002, 0x70000002, 0x80000008,
      0x90000001] : List ReqWord).all (fun w => w &&& reservedBits (w.extractLsb' 28 4) != 0) = true := by decide
theorem test_witness_SyntaxAssemblesToTheEncoding :
    (Instr.setTiming .led3 5 3 7 1 8).wellFormed Config.default = true ∧
    encode (.setTiming .led3 5 3 7 1 8) = .req32 0x52081735 := by decide
theorem test_witness_AssemblerWritesLegalWordsOnly : assemble Config.default "SHUTDOWN 1, 1" = .ok 0x70000021 := by decide
/-- For each clause, a number at the first value that does not fit; for the codes also one outside the legal set. -/
theorem test_witness_AssemblerRejectsOperandsThatDoNotFit :
    64 ≤ 64 ∧ BitVec.ofNat 6 5 ∉ Config.default.csLegal ∧ 256 ≤ 256 ∧
    "SET_PWM_LED2" ∈ ["SET_PWM_LED1", "SET_PWM_LED2", "SET_PWM_LED3"] ∧
    16 ≤ 16 ∧ BitVec.ofNat 4 11 ∉ Config.default.t0Legal ∧ 8 ≤ 8 ∧ BitVec.ofNat 4 9 ∉ Config.default.t2Legal ∧
    BitVec.ofNat 4 9 ∉ Config.default.t4Legal ∧ 2 ≤ 2 := by decide
theorem test_witness_EncodeCommandInjective :
    encodeCommand (.pwm .led2 255) = encodeCommand (.pwm .led2 255) := by decide
/-- The first and the last address of R51. -/
theorem test_witness_EmittedAddressesExactlyTwenty :
    (Instr.shutdown 1 1).wellFormed Config.default = true ∧
    (framesOf Config.default (.shutdown 1 1)).map Frame.b0 = [0x00] ∧
    (framesOf Config.default .reset).map Frame.b0 = [0x2F] := by decide
theorem test_witness_StrapAddressesDistinct :
    Config.default.wellFormed = true ∧ addressOf Config.default .sda = addressOf Config.default .sda := by decide

theorem test_witness_SetMaxCurrentAccepted : idleState.seq = .idle ∧ 4 ∈ idleState.config.csLegal := by decide
theorem test_witness_SetPwmAccepted : idleState.seq = .idle := by decide
theorem test_witness_SetPwmLed1Accepted : idleState.seq = .idle := by decide
/-- Both values of `PWM_SETTER_COMPAT`. -/
theorem test_witness_SetPwmLed2Accepted :
    idleState.seq = .idle ∧ idleState.config.pwmSetterCompat = false ∧
    { idleState with config := { Config.default with pwmSetterCompat := true } }.seq = .idle := by decide
/-- Both values of `PWM_SETTER_COMPAT`. -/
theorem test_witness_SetPwmLed3Accepted :
    idleState.seq = .idle ∧ idleState.config.pwmSetterCompat = false ∧
    { idleState with config := { Config.default with pwmSetterCompat := true } }.seq = .idle := by decide
theorem test_witness_SetTimingAccepted :
    idleState.seq = .idle ∧ 10 ∈ idleState.config.t0Legal ∧ 7 ∈ idleState.config.t1Legal ∧
    8 ∈ idleState.config.t2Legal ∧ 7 ∈ idleState.config.t3Legal ∧ 8 ∈ idleState.config.t4Legal := by decide
/-- All three clauses have this one hypothesis. -/
theorem test_witness_SetModeAccepted : idleState.seq = .idle := by decide
theorem test_witness_ShutdownAccepted : idleState.seq = .idle := by decide
theorem test_witness_SetLedPowerAccepted : idleState.seq = .idle := by decide
theorem test_witness_ResetAccepted : idleState.seq = .idle := by decide
/-- X3, X12, X13. -/
theorem test_witness_IllegalCodeTakesIllegalRequest :
    idleState.seq = .idle ∧
    (Instr.setMaxCurrent 5).wellFormed idleState.config = false ∧
    encode (.setMaxCurrent 5) = .req32 0x00000005 ∧
    (Instr.setTiming .led1 11 0 0 0 0).wellFormed idleState.config = false ∧
    encode (.setTiming .led1 11 0 0 0 0) = .req32 0x5000000B ∧
    (Instr.setTiming .led1 0 0 0 0 9).wellFormed idleState.config = false ∧
    encode (.setTiming .led1 0 0 0 0 9) = .req32 0x50090000 := by decide
/-- S9: an operation, and its word offered, in `ISSUE`, `WAIT` and `RESP`. -/
theorem test_witness_BusyHoldsRequestBack :
    isOperation (.setPwmLed1 255) = true ∧ (inFlight .issue 0 .quiet).seq ≠ .idle ∧
    (inFlight .wait 0 (offerSample 0x200000FF)).seq ≠ .idle ∧
    (inFlight .wait 0 (offerSample 0x200000FF)).inputs
      = [{ PortSample.quiet with reqValid := true, reqWord := 0x200000FF }] ∧
    (responding .ok .quiet).seq ≠ .idle := by decide

theorem test_witness_ApplyFramesLatch :
    (encodeCommand .pwmUpdate).b0 = 0x07 ∧ (encodeCommand .timeUpdate).b0 = 0x1C := by decide
theorem test_witness_CommandRunsAsItsFrame :
    decodeFrame ⟨0x17, 0xE2⟩ = .ok (.cmdTimeThreeFour1 7 1) ∧ decodeFrame ⟨0x2F, 0x00⟩ = .ok .cmdReset := by decide
theorem test_witness_StepRunsDecodedRequest :
    (placeRequest 0x00000004 idleState).inputs = [offerSample 0x00000004] ∧
    (offerSample 0x00000004).rst = false ∧ (placeRequest 0x00000004 idleState).seq = .idle ∧
    (offerSample 0x00000004).reqValid = true ∧
    decodeRequest (placeRequest 0x00000004 idleState).config (offerSample 0x00000004).reqWord
      = .ok (.setMaxCurrent 4) := by decide
/-- The last frame of four, and the only frame of one. -/
theorem test_witness_StepRunsDecodedFrame :
    (inFlight .wait 3 ackSample).inputs = [ackSample] ∧ ackSample.rst = false ∧ (inFlight .wait 3 ackSample).seq = .wait ∧
    ackSample.busRspValid = true ∧ ackSample.busRspOk = true ∧
    (inFlight .wait 3 ackSample).k.toNat < (inFlight .wait 3 ackSample).n.toNat ∧
    (inFlight .wait 3 ackSample).n.toNat ≤ 4 ∧
    decodeFrame (frameAt (inFlight .wait 3 ackSample).fr 3) = .ok .cmdPwmUpdate ∧
    (placeFrame ⟨0x0B, 0x20⟩ idleState).k.toNat < (placeFrame ⟨0x0B, 0x20⟩ idleState).n.toNat ∧
    decodeFrame (frameAt (placeFrame ⟨0x0B, 0x20⟩ idleState).fr 0) = .ok (.cmdTimeZero1 2) := by decide
/-- A legal and an illegal word. -/
theorem test_witness_AcceptStep :
    (placeRequest 0x101E140A idleState).inputs = [offerSample 0x101E140A] ∧ (offerSample 0x101E140A).rst = false ∧
    (placeRequest 0x101E140A idleState).seq = .idle ∧ (offerSample 0x101E140A).reqValid = true ∧
    legal (placeRequest 0x101E140A idleState).config 0x101E140A = true ∧
    legal (placeRequest 0xA0000000 idleState).config (offerSample 0xA0000000).reqWord = false := by decide
/-- `K` at 0 and at its largest value. -/
theorem test_witness_IssueStep :
    (portsNow (inFlight .issue 3 .quiet)).rst = false ∧ (inFlight .issue 3 .quiet).seq = .issue ∧
    (inFlight .issue 3 .quiet).k.toNat < (inFlight .issue 3 .quiet).n.toNat ∧ (inFlight .issue 3 .quiet).n.toNat ≤ 4 ∧
    (inFlight .issue 0 .quiet).k.toNat < (inFlight .issue 0 .quiet).n.toNat := by decide
/-- The last frame (`K` = 3 of 4) and the one before it. -/
theorem test_witness_BusOkStep :
    (inFlight .wait 3 ackSample).inputs = [ackSample] ∧ ackSample.rst = false ∧ (inFlight .wait 3 ackSample).seq = .wait ∧
    ackSample.busRspValid = true ∧ ackSample.busRspOk = true ∧ (inFlight .wait 3 ackSample).n.toNat ≤ 4 ∧
    writeTarget default ⟨0x07, 0x00⟩ = some default ∧
    (writeTarget (inFlight .wait 3 ackSample).target (frameAt (inFlight .wait 3 ackSample).fr 3)).isSome = true ∧
    (inFlight .wait 3 ackSample).k.toNat + 1 = (inFlight .wait 3 ackSample).n.toNat ∧
    (writeTarget (inFlight .wait 2 ackSample).target (frameAt (inFlight .wait 2 ackSample).fr 2)).isSome = true ∧
    (inFlight .wait 2 ackSample).k.toNat + 1 < (inFlight .wait 2 ackSample).n.toNat := by decide
theorem test_witness_BusErrStep :
    (inFlight .wait 0 (failSample ⟨99⟩)).inputs = [failSample ⟨99⟩] ∧ (failSample ⟨99⟩).rst = false ∧
    (inFlight .wait 0 (failSample ⟨99⟩)).seq = .wait ∧ (failSample ⟨99⟩).busRspValid = true ∧
    (failSample ⟨99⟩).busRspOk = false ∧
    (inFlight .wait 0 (failSample ⟨99⟩)).k.toNat < (inFlight .wait 0 (failSample ⟨99⟩)).n.toNat ∧
    (inFlight .wait 0 (failSample ⟨99⟩)).n.toNat ≤ 4 ∧
    writeTarget (inFlight .wait 0 (failSample ⟨99⟩)).target (frameAt (inFlight .wait 0 (failSample ⟨99⟩)).fr 0)
      = some { (default : Target) with rawPwm := ⟨0x0A, 0, 0⟩ } := by decide
/-- The three statuses. -/
theorem test_witness_DeliverStep :
    (responding .transportError takeSample).inputs = [takeSample] ∧ takeSample.rst = false ∧
    (responding .transportError takeSample).seq = .resp ∧ takeSample.rspReady = true ∧
    (responding .transportError takeSample).rspStatus = .transportError ∧
    (responding .ok takeSample).rspStatus ≠ .transportError ∧
    (responding .illegalRequest takeSample).rspStatus ≠ .transportError := by decide
/-- `ISSUE`, `IDLE` and `RESP`. -/
theorem test_witness_ResetStep :
    (inFlight .issue 1 (resetSample false)).inputs = [resetSample false] ∧ (resetSample false).rst = true ∧
    (inFlight .issue 1 (resetSample false)).seq ≠ .wait ∧ (inFlight .idle 1 (resetSample false)).seq ≠ .wait ∧
    (responding .ok (resetSample false)).seq ≠ .wait := by decide
/-- Without and with a reset of the transport. -/
theorem test_witness_ResetWithFrameOutstanding :
    (inFlight .wait 3 (resetSample false)).inputs = [resetSample false] ∧ (resetSample false).rst = true ∧
    (inFlight .wait 3 (resetSample false)).seq = .wait ∧ (resetSample false).transportRst = false ∧
    (inFlight .wait 3 (resetSample true)).inputs = [resetSample true] ∧ (resetSample true).rst = true ∧
    (resetSample true).transportRst = true ∧
    (inFlight .wait 3 (resetSample true)).k.toNat < (inFlight .wait 3 (resetSample true)).n.toNat ∧
    (inFlight .wait 3 (resetSample true)).n.toNat ≤ 4 ∧
    (writeTarget (inFlight .wait 3 (resetSample true)).target (frameAt (inFlight .wait 3 (resetSample true)).fr 3)).isSome
      = true := by decide
/-- Two quiet samples and the end of the schedule. -/
theorem test_witness_NoTimeout :
    (∀ p ∈ (inFlight .wait 0 .quiet).inputs.take 2, p.rst = false) ∧ (inFlight .wait 0 .quiet).seq = .wait ∧
    (∀ p ∈ (inFlight .wait 0 .quiet).inputs.take 2, p.busRspValid = false) ∧
    (∀ p ∈ (responding .ok .quiet).inputs.take 2, p.rst = false) ∧ (responding .ok .quiet).seq = .resp ∧
    (∀ p ∈ (responding .ok .quiet).inputs.take 2, p.rspReady = false) := by decide
theorem test_witness_QuiescentStepDoesNothing :
    quiescent (inFlight .idle 0 takeSample) = true ∧ (portsNow (inFlight .idle 0 takeSample)).rst = false := by decide
theorem test_witness_OutputPorts :
    (inFlight .wait 1 .quiet).seq = .wait ∧ (responding .transportError .quiet).seq = .resp ∧
    (responding .transportError .quiet).rspStatus = .transportError := by decide
/-- Samples that differ in every input the phase does not read, the strap among them. -/
theorem test_witness_InputsReadOnlyInTheirPhase :
    (inFlight .issue 1 .quiet).inputs = [.quiet] ∧ PortSample.quiet.rst = false ∧ ackSample.rst = false ∧
    (inFlight .issue 1 .quiet).seq = .issue ∧ (inFlight .idle 1 .quiet).seq = .idle ∧
    ackSample.reqValid = PortSample.quiet.reqValid ∧ ackSample.reqWord = PortSample.quiet.reqWord ∧
    (inFlight .wait 1 .quiet).seq = .wait ∧
    { takeSample with strap := 0b11 }.busRspValid = PortSample.quiet.busRspValid ∧
    { takeSample with strap := 0b11 }.busRspOk = PortSample.quiet.busRspOk ∧
    { takeSample with strap := 0b11 }.busRspErr = PortSample.quiet.busRspErr ∧
    (responding .ok .quiet).seq = .resp ∧ ackSample.rspReady = PortSample.quiet.rspReady := by decide

/-- An Accept, an Issue, a BusOK, a Deliver and a Reset are next states. -/
theorem test_witness_StepLogsAtMostOneEvent :
    (nextOf (step (placeRequest 0x00000004 idleState))).isSome = true ∧
    (nextOf (step (inFlight .issue 0 .quiet))).isSome = true ∧ (nextOf (step (inFlight .wait 0 ackSample))).isSome = true ∧
    (nextOf (step (responding .ok takeSample))).isSome = true ∧
    (nextOf (step (inFlight .issue 0 (resetSample false)))).isSome = true := by decide
theorem test_witness_Addr7WrittenOnlyAtReset :
    (nextOf (step (inFlight .issue 0 (resetSample false)))).isSome = true ∧
    (portsNow (inFlight .issue 0 (resetSample false))).rst = true ∧
    (nextOf (step (inFlight .issue 0 .quiet))).isSome = true ∧ (portsNow (inFlight .issue 0 .quiet)).rst = false := by
  decide
theorem test_witness_ParametersNeverChange : (nextOf (step (inFlight .wait 0 ackSample))).isSome = true := by decide
theorem test_witness_TargetChangesOnlyByTheFrame :
    (nextOf (step (inFlight .wait 0 ackSample))).all (fun t => t.target != (inFlight .wait 0 ackSample).target) = true ∧
    (nextOf (step (inFlight .wait 0 ackSample))).isSome = true := by decide
/-- An apply of duties, and one of timing. -/
theorem test_witness_ActiveValuesNeedAnApply :
    (nextOf (step { inFlight .wait 3 ackSample with target := { (default : Target) with rawPwm := ⟨1, 0x40, 3⟩ } })).map
      (fun t => t.target.actPwm) = some ⟨1, 0x40, 3⟩ ∧
    (nextOf (step { placeFrame ⟨0x1C, 0⟩ idleState with target := { (default : Target) with rawT12 := ⟨1, 2, 3⟩ } })).map
      (fun t => t.target.actT12) = some ⟨1, 2, 3⟩ := by decide
/-- Two Commands, and four. -/
theorem test_witness_ApplyComesLast :
    2 ≤ (expand Config.default (.setMode (.breathing .auto .none))).length ∧
    2 ≤ (expand Config.default (.setPwm 1 2 3)).length := by decide
/-- In `IDLE`, states that differ in the chip, the frame buffer, `N`, `K`, the response and the draws. -/
theorem test_witness_UnreadStateNeverObserved :
    SameVisible idleState { idleState with
      target := factoryTarget, fr := pwmFrames, n := 4, k := 3, rspStatus := .transportError, rspErr := ⟨7⟩, draws := 5 } :=
  ⟨rfl, rfl, rfl, rfl, rfl, fun h => absurd h (by decide), fun h => absurd h (by decide)⟩

/-- The invariant of a state in `WAIT` (V1's first frame issued). -/
theorem test_runInv_waiting (p : PortSample) : RunInv (waiting p) :=
  ⟨⟨.gnd, rfl, rfl⟩, fun _ => ⟨0x101E140A, [.reset .gnd], [.issued 0x68 ⟨0x04, 0x0A⟩], rfl,
    ⟨.setPwm 10 20 30, (by decide : decodeRequest Config.default 0x101E140A = .ok (.setPwm 10 20 30)), rfl, by show 0 < 4; decide, rfl⟩, rfl⟩⟩
theorem test_witness_StepKeepsInvariant :
    RunInv (waiting ackSample) ∧ (nextOf (step (waiting ackSample))).isSome = true :=
  ⟨test_runInv_waiting _, by decide⟩
/-- Both conclusions are met under the invariant. -/
theorem test_witness_StepNeverFaults :
    RunInv (waiting ackSample) ∧ RunInv (waiting (resetSample false)) ∧
    step (waiting (resetSample false)) = .refused .resetWithFrameOutstanding :=
  ⟨test_runInv_waiting _, test_runInv_waiting _, rfl⟩

theorem test_witness_OperationRunsToCompletion :
    idleState.seq = .idle ∧ decodeRequest idleState.config 0x101E140A = .ok (.setPwm 10 20 30) ∧
    { idleState with inputs := completeSchedule 0x101E140A 4 }.inputs
      = completeSchedule 0x101E140A (framesOf idleState.config (.setPwm 10 20 30)).length ++ [] := by decide
/-- V3: the second of four frames fails. -/
theorem test_witness_AbortAtFailedFrame :
    idleState.seq = .idle ∧ decodeRequest idleState.config 0x101E140A = .ok (.setPwm 10 20 30) ∧
    framesOf idleState.config (.setPwm 10 20 30)
      = [⟨0x04, 0x0A⟩] ++ ⟨0x05, 0x14⟩ :: [⟨0x06, 0x1E⟩, ⟨0x07, 0x00⟩] ∧
    { idleState with inputs := abortSchedule 0x101E140A 1 ⟨99⟩ }.inputs = abortSchedule 0x101E140A 1 ⟨99⟩ ++ [] := by decide
theorem test_witness_IllegalRequestTakesTwoSteps :
    idleState.seq = .idle ∧ legal idleState.config 0x53000000 = false ∧
    { idleState with inputs := [offerSample 0x53000000, takeSample] }.inputs
      = [offerSample 0x53000000, takeSample] := by decide

end Sys2Proof.Tests
end

section
/-!
PROOFS. What an instruction can do, said once for each of the two formats, and from it that no step changes a
parameter of R7.
-/

namespace Sys2Proof.Machine

/-! ### What an instruction can do -/

/-- Accept holds the request back, loads the operation, or takes ILLEGAL_REQUEST (R29, R140). -/
theorem accept_next {req : ReqWord} {l : List Command} {s t : State} (h : accept req l s = .next t) :
    (s.seq ≠ .idle ∧ t = s) ∨
    (s.seq = .idle ∧ legal s.config req = true ∧ t = loadOperation l (emit (.accepted req) s)) ∨
    (s.seq = .idle ∧ legal s.config req = false ∧ t = acceptIllegal req s) := by
  by_cases hq : s.seq = .idle
  · cases hl : legal s.config req
    case true => rw [accept_legal hq hl] at h; cases h; exact .inr (.inl ⟨hq, rfl, rfl⟩)
    case false => rw [accept_illegal hq hl] at h; cases h; exact .inr (.inr ⟨hq, rfl, rfl⟩)
  · rw [accept_busy hq] at h; cases h; exact .inl ⟨hq, rfl⟩

/-- Every row that is no operation runs, in every state, the Command its frame encodes (R83, R120 to R131). -/
theorem exec_command {i : Instr} (h : isOperation i = false) :
    ∃ c, encode i = commandWord c ∧ ∀ s, exec i s = runCommand c s := by
  cases i <;> simp only [isOperation, Bool.true_eq_false] at h <;> exact ⟨_, rfl, fun _ => rfl⟩

/-- An instruction's next state comes from Accept of its request word or from its frame at the chip. -/
theorem exec_next {i : Instr} {s t : State} (h : exec i s = .next t) :
    (∃ w, encode i = .req32 w ∧ accept w (expand s.config i) s = .next t) ∨
    (∃ c, encode i = commandWord c ∧ landFrame (encodeCommand c) s = .next t) := by
  cases hi : isOperation i
  case true =>
    obtain ⟨w, hw⟩ := encode_operation hi
    exact .inl ⟨w, hw, (exec_operation s hw).symm.trans h⟩
  case false =>
    obtain ⟨c, hc, hrun⟩ := exec_command hi
    exact .inr ⟨c, hc, (hrun s).symm.trans h⟩

/-! ### The parameters -/

theorem landFrame_next_config {f : Frame} {s t : State} (h : landFrame f s = .next t) : t.config = s.config := by
  obtain ⟨_, _, rfl⟩ := landFrame_next h
  rfl

theorem accept_next_config {req : ReqWord} {l : List Command} {s t : State} (h : accept req l s = .next t) :
    t.config = s.config := by
  obtain ⟨_, rfl⟩ | ⟨_, _, rfl⟩ | ⟨_, _, rfl⟩ := accept_next h <;> rfl

theorem exec_next_config {i : Instr} {s t : State} (h : exec i s = .next t) : t.config = s.config := by
  obtain ⟨_, _, ha⟩ | ⟨_, _, hl⟩ := exec_next h
  · exact accept_next_config ha
  · exact landFrame_next_config hl

theorem issueFrame_next_config {s t : State} (h : issueFrame s = .next t) : t.config = s.config := by
  obtain ⟨_, rfl⟩ := issueFrame_next h
  rfl

theorem frameFailed_next_config {e : Err} {s t : State} (h : frameFailed e s = .next t) : t.config = s.config := by
  obtain ⟨_, _, _, rfl⟩ := frameFailed_next h
  rfl

theorem resetStep_next_config {p : PortSample} {s t : State} (h : resetStep p s = .next t) :
    t.config = s.config := by
  obtain ⟨_, _, rfl, _⟩ := resetStep_next h
  rfl

/-- Settles O47: each kind of step keeps the parameters, by the kind's own lemma. -/
theorem parametersNeverChange : Obligations.ParametersNeverChange := by
  intro s t h
  rw [← consumeInput_config s]
  obtain ⟨_, hreset⟩ | ⟨_, hphase⟩ := step_next_cases h
  · exact resetStep_next_config hreset
  obtain ⟨_, _, rfl⟩ | ⟨_, _, _, rfl⟩ | ⟨_, _, _, _, hexec⟩ | ⟨_, hissue⟩ | ⟨_, _, rfl⟩ | ⟨_, _, _, _, hack⟩ |
    ⟨_, _, _, hfail⟩ | ⟨_, _, rfl⟩ | ⟨_, _, rfl⟩ := hphase
  · rfl
  · exact acceptIllegal_config _ _
  · exact exec_next_config hexec
  · exact issueFrame_next_config hissue
  · rfl
  · rw [← frameAcked_config (consumeInput s)]
    obtain ⟨_, _, hexec⟩ | ⟨_, hland⟩ := hack
    · exact exec_next_config hexec
    · exact landFrame_next_config hland
  · exact frameFailed_next_config hfail
  · rfl
  · exact deliver_config _

end Sys2Proof.Machine
end

section
/-!
PROOFS. The decoder, said once for both formats: what decodes encodes back to the same word (R101, R108, R133), and a
request word decodes exactly if it is legal (R104).
-/

namespace Sys2Proof

/-! ### Codes and neighbouring fields -/

/-- Two neighbouring fields are one field. -/
theorem field_append_field {n hi lo k len : Nat} (w : BitVec n) (h : hi = lo + k) :
    field w hi len ++ field w lo k = field w lo (len + k) := by
  subst h; exact field_split w lo k len

@[simp] theorem channelCode_ne_three (c : Channel) : channelCode c ≠ 3#2 := by
  cases c <;> decide

@[simp] theorem subModeCode_ne_three (sm : SubMode) : subModeCode sm ≠ 3#2 := by
  cases sm <;> decide

theorem bit_eq_one {b : BitVec 1} (h : b ≠ 0) : b = 1 :=
  (BitVec.eq_zero_or_eq_one b).resolve_left h

/-! ### A word is the request word of its fields -/

theorem requestSetMaxCurrent_fields {w : ReqWord} (hop : field w 28 4 = 0x0#4) (hres : field w 6 22 = 0) :
    requestSetMaxCurrent (field w 0 6) = w := by
  have split : field w 28 4 ++ field w 6 22 ++ field w 0 6 = w := by
    simp (disch := rfl) only [field_append_field]; exact field_whole w
  rwa [hop, hres] at split

theorem requestSetPwm_fields {w : ReqWord} (hop : field w 28 4 = 0x1#4) (hres : field w 24 4 = 0) :
    requestSetPwm (field w 0 8) (field w 8 8) (field w 16 8) = w := by
  have split : field w 28 4 ++ field w 24 4 ++ field w 16 8 ++ field w 8 8 ++ field w 0 8 = w := by
    simp (disch := rfl) only [field_append_field]; exact field_whole w
  rwa [hop, hres] at split

/-- The three one-channel PWM words have one layout, under three opcodes (R93 to R95). -/
theorem requestSetPwmLed_fields {w : ReqWord} {op : BitVec 4} (hop : field w 28 4 = op) (hres : field w 8 20 = 0) :
    op ++ 0#20 ++ field w 0 8 = w := by
  have split : field w 28 4 ++ field w 8 20 ++ field w 0 8 = w := by
    simp (disch := rfl) only [field_append_field]; exact field_whole w
  rwa [hop, hres] at split

theorem requestSetTiming_fields {w : ReqWord} {ch : Channel} (hop : field w 28 4 = 0x5#4) (h26 : field w 26 2 = 0)
    (hch : field w 24 2 = channelCode ch) (h20 : field w 20 4 = 0) (h15 : field w 15 1 = 0) (h7 : field w 7 1 = 0) :
    requestSetTiming ch (field w 0 4) (field w 4 3) (field w 8 4) (field w 12 3) (field w 16 4) = w := by
  have split : field w 28 4 ++ field w 26 2 ++ field w 24 2 ++ field w 20 4 ++ field w 16 4 ++ field w 15 1 ++
      field w 12 3 ++ field w 8 4 ++ field w 7 1 ++ field w 4 3 ++ field w 0 4 = w := by
    simp (disch := rfl) only [field_append_field]; exact field_whole w
  rwa [hop, h26, hch, h20, h15, h7] at split

theorem modeWord_fields {w : ReqWord} (hop : field w 28 4 = 0x6#4) (h14 : field w 14 14 = 0) (h9 : field w 9 3 = 0)
    (h6 : field w 6 2 = 0) (h1 : field w 1 3 = 0) :
    modeWord (field w 12 2) (field w 8 1) (field w 4 2) (field w 0 1) = w := by
  have split : field w 28 4 ++ field w 14 14 ++ field w 12 2 ++ field w 9 3 ++ field w 8 1 ++ field w 6 2 ++
      field w 4 2 ++ field w 1 3 ++ field w 0 1 = w := by
    simp (disch := rfl) only [field_append_field]; exact field_whole w
  rwa [hop, h14, h9, h6, h1] at split

theorem requestShutdown_fields {w : ReqWord} (hop : field w 28 4 = 0x7#4) (h6 : field w 6 22 = 0)
    (h1 : field w 1 4 = 0) : requestShutdown (field w 5 1) (field w 0 1) = w := by
  have split : field w 28 4 ++ field w 6 22 ++ field w 5 1 ++ field w 1 4 ++ field w 0 1 = w := by
    simp (disch := rfl) only [field_append_field]; exact field_whole w
  rwa [hop, h6, h1] at split

theorem requestSetLedPower_fields {w : ReqWord} (hop : field w 28 4 = 0x8#4) (hres : field w 3 25 = 0) :
    requestSetLedPower (field w 0 1) (field w 1 1) (field w 2 1) = w := by
  have split : field w 28 4 ++ field w 3 25 ++ field w 2 1 ++ field w 1 1 ++ field w 0 1 = w := by
    simp (disch := rfl) only [field_append_field]; exact field_whole w
  rwa [hop, hres] at split

theorem requestReset_fields {w : ReqWord} (hop : field w 28 4 = 0x9#4) (hres : field w 0 28 = 0) :
    requestReset = w := by
  have split : field w 28 4 ++ field w 0 28 = w := by
    simp (disch := rfl) only [field_append_field]; exact field_whole w
  rwa [hop, hres] at split

/-! ### Request words: decode, then encode -/

theorem encode_of_ok_ite {p : Prop} [Decidable p] {i j : Instr} {r : Reject} {e : Encoded}
    (h : (if p then .ok j else .error r : Except Reject Instr) = .ok i) (hj : p → encode j = e) : encode i = e := by
  split at h <;> cases h
  exact hj ‹_›

theorem checkCodes_ok {cfg : Config} {i j : Instr} (h : checkCodes cfg i = .ok j) : j = i := by
  unfold checkCodes at h
  split at h <;> cases h
  rfl

theorem decodeSetTiming_encode {cfg : Config} {w : ReqWord} {i : Instr} (hop : field w 28 4 = 0x5#4)
    (h : decodeSetTiming cfg w = .ok i) : encode i = .req32 w := by
  unfold decodeSetTiming at h
  split at h
  · cases h
  next hres =>
    simp only [not_or, not_not] at hres
    obtain ⟨h26, h20, h15, h7⟩ := hres
    split at h
    · cases h
    next ch hch =>
      cases checkCodes_ok h
      exact congrArg Encoded.req32 (requestSetTiming_fields hop h26 (channelOf_eq_some hch) h20 h15 h7)

/-- The marking fields of a word that decodes are those of its marking (R97, R103). -/
theorem decodeMarking_fields {w : ReqWord} {sm : SubMode} {mark : Marking} (h : decodeMarking w = .ok mark) :
    requestSetMode (.breathing sm mark) = modeWord (field w 12 2) (field w 8 1) (subModeCode sm) 1 := by
  unfold decodeMarking at h
  split at h
  next hmk =>
    split at h <;> cases h
    next hmch => rw [hmk, hmch]; rfl
  next hmk =>
    split at h <;> cases h
    next ch hch => rw [bit_eq_one hmk, channelOf_eq_some hch]; rfl

theorem decodeSetMode_encode {w : ReqWord} {i : Instr} (hop : field w 28 4 = 0x6#4)
    (h : decodeSetMode w = .ok i) : encode i = .req32 w := by
  unfold decodeSetMode at h
  split at h
  · cases h
  next hres =>
    simp only [not_or, not_not] at hres
    obtain ⟨h14, h9, h6, h1⟩ := hres
    have hw := modeWord_fields hop h14 h9 h6 h1
    refine Eq.trans ?_ (congrArg Encoded.req32 hw)
    split at h
    next hm =>
      split at h <;> cases h
      next hzero =>
        obtain ⟨hmch, hmk, hsm⟩ := hzero
        rw [hm, hmch, hmk, hsm]; rfl
    next hm =>
      split at h
      · cases h
      next sm hsm =>
        split at h <;> cases h
        next mark hmark =>
          rw [bit_eq_one hm, subModeOf_eq_some hsm, ← decodeMarking_fields hmark]; rfl

/-- A request word that decodes is the encoding of the operation it decodes to, opcode by opcode (R101, R108). -/
theorem decodeRequest_encode {cfg : Config} {w : ReqWord} {i : Instr} (h : decodeRequest cfg w = .ok i) :
    encode i = .req32 w := by
  unfold decodeRequest at h
  extract_lets op at h
  rcases ite_eq_iff.mp h with ⟨hop, h⟩ | ⟨_, h⟩
  · rcases ite_eq_iff.mp h with ⟨hres, h⟩ | ⟨_, h⟩
    · cases checkCodes_ok h; exact congrArg Encoded.req32 (requestSetMaxCurrent_fields hop hres)
    · cases h
  rcases ite_eq_iff.mp h with ⟨hop, h⟩ | ⟨_, h⟩
  · exact encode_of_ok_ite h fun hres => congrArg Encoded.req32 (requestSetPwm_fields hop hres)
  rcases ite_eq_iff.mp h with ⟨hop, h⟩ | ⟨_, h⟩
  · exact encode_of_ok_ite h fun hres => congrArg Encoded.req32 (requestSetPwmLed_fields hop hres)
  rcases ite_eq_iff.mp h with ⟨hop, h⟩ | ⟨_, h⟩
  · exact encode_of_ok_ite h fun hres => congrArg Encoded.req32 (requestSetPwmLed_fields hop hres)
  rcases ite_eq_iff.mp h with ⟨hop, h⟩ | ⟨_, h⟩
  · exact encode_of_ok_ite h fun hres => congrArg Encoded.req32 (requestSetPwmLed_fields hop hres)
  rcases ite_eq_iff.mp h with ⟨hop, h⟩ | ⟨_, h⟩
  · exact decodeSetTiming_encode hop h
  rcases ite_eq_iff.mp h with ⟨hop, h⟩ | ⟨_, h⟩
  · exact decodeSetMode_encode hop h
  rcases ite_eq_iff.mp h with ⟨hop, h⟩ | ⟨_, h⟩
  · exact encode_of_ok_ite h fun ⟨h6, h1⟩ => congrArg Encoded.req32 (requestShutdown_fields hop h6 h1)
  rcases ite_eq_iff.mp h with ⟨hop, h⟩ | ⟨_, h⟩
  · exact encode_of_ok_ite h fun hres => congrArg Encoded.req32 (requestSetLedPower_fields hop hres)
  rcases ite_eq_iff.mp h with ⟨hop, h⟩ | ⟨_, h⟩
  · exact encode_of_ok_ite h fun hres => congrArg Encoded.req32 (requestReset_fields hop hres)
  · cases h

/-! ### Request words: the decoder accepts the legal ones -/

theorem exists_ok_ite {α : Type} {p : Prop} [Decidable p] {x : Except Reject α} {r : Reject} :
    (∃ a, (if p then x else .error r) = .ok a) ↔ p ∧ ∃ a, x = .ok a := by
  split <;> simp [*]

theorem exists_ok_ite_error {α : Type} {p : Prop} [Decidable p] {x : Except Reject α} {r : Reject} :
    (∃ a, (if p then .error r else x) = .ok a) ↔ ¬ p ∧ ∃ a, x = .ok a := by
  split <;> simp [*]

theorem checkCodes_isOk {cfg : Config} {i : Instr} :
    (∃ j, checkCodes cfg i = .ok j) ↔ i.wellFormed cfg = true := by
  simp [checkCodes, exists_ok_ite]

theorem decodeSetTiming_isOk (cfg : Config) (w : ReqWord) :
    (∃ i, decodeSetTiming cfg w = .ok i) ↔
      (field w 26 2 = 0 ∧ field w 20 4 = 0 ∧ field w 15 1 = 0 ∧ field w 7 1 = 0) ∧ field w 24 2 ≠ 0b11 ∧
      field w 0 4 ∈ cfg.t0Legal ∧ field w 4 3 ∈ cfg.t1Legal ∧ field w 8 4 ∈ cfg.t2Legal ∧
      field w 12 3 ∈ cfg.t3Legal ∧ field w 16 4 ∈ cfg.t4Legal := by
  rw [decodeSetTiming, exists_ok_ite_error]
  cases hc : channelOf (field w 24 2)
  case none => simp [channelOf_eq_none.mp hc]
  case some ch => simp [channelOf_eq_some hc, checkCodes_isOk, Instr.wellFormed, and_assoc]

theorem decodeMarking_isOk (w : ReqWord) :
    (∃ m, decodeMarking w = .ok m) ↔
      (field w 8 1 = 0 ∧ field w 12 2 = 0) ∨ (field w 8 1 = 1 ∧ field w 12 2 ≠ 0b11) := by
  unfold decodeMarking
  by_cases h : field w 8 1 = 0
  · simp [h, exists_ok_ite]
  · cases hc : channelOf (field w 12 2)
    case none => simp [bit_eq_one h, channelOf_eq_none.mp hc]
    case some ch => simp [bit_eq_one h, channelOf_eq_some hc]

theorem decodeSetMode_isOk (w : ReqWord) :
    (∃ i, decodeSetMode w = .ok i) ↔
      (field w 14 14 = 0 ∧ field w 9 3 = 0 ∧ field w 6 2 = 0 ∧ field w 1 3 = 0) ∧
      ((field w 0 1 = 0 ∧ field w 12 2 = 0 ∧ field w 8 1 = 0 ∧ field w 4 2 = 0) ∨
        (field w 0 1 = 1 ∧ field w 4 2 ≠ 0b11 ∧ ∃ m, decodeMarking w = .ok m)) := by
  rw [decodeSetMode, exists_ok_ite_error]
  by_cases h : field w 0 1 = 0
  · simp [h, exists_ok_ite]
  · cases hc : subModeOf (field w 4 2)
    case none => simp [bit_eq_one h, subModeOf_eq_none.mp hc]
    case some sm => cases hm : decodeMarking w <;> simp [bit_eq_one h, subModeOf_eq_some hc]

/-- The decoder gives an operation for exactly the legal words, opcode by opcode (R104, R108). -/
theorem decodeRequest_isOk (cfg : Config) (w : ReqWord) :
    (∃ i, decodeRequest cfg w = .ok i) ↔ legal cfg w = true := by
  unfold legal decodeRequest
  generalize field w 28 4 = op
  by_cases h0 : op = 0x0#4
  · simp [h0, exists_ok_ite, checkCodes_isOk, Instr.wellFormed]
  by_cases h1 : op = 0x1#4
  · simp [h1, exists_ok_ite]
  by_cases h2 : op = 0x2#4 ∨ op = 0x3#4 ∨ op = 0x4#4
  · rcases h2 with h | h | h <;> simp [h, exists_ok_ite]
  by_cases h5 : op = 0x5#4
  · simp [h5, decodeSetTiming_isOk, and_assoc]
  by_cases h6 : op = 0x6#4
  · simp [h6, decodeSetMode_isOk, decodeMarking_isOk, and_assoc]
  by_cases h7 : op = 0x7#4
  · simp [h7, exists_ok_ite]
  by_cases h8 : op = 0x8#4
  · simp [h8, exists_ok_ite]
  by_cases h9 : op = 0x9#4
  · simp [h9, exists_ok_ite]
  simp only [not_or] at h2
  simp [*]

theorem decodeRequest_error {cfg : Config} {w : ReqWord} {r : Reject} (h : decodeRequest cfg w = .error r) :
    legal cfg w = false := by
  by_contra hl
  obtain ⟨i, hi⟩ := (decodeRequest_isOk cfg w).mpr (Bool.not_eq_false _ ▸ hl)
  cases h.symm.trans hi

/-! ### Frames: decode, then encode -/

/-- Frames of one address with equal payloads. -/
theorem frame16_congr {a b b' : Byte} (h : b = b') :
    Encoded.frame16 (wordOfFrame ⟨a, b⟩) = .frame16 (wordOfFrame ⟨a, b'⟩) := by
  rw [h]

theorem decodeShutdownFrame_encode {b1 : Byte} {i : Instr} (h : decodeShutdownFrame b1 = .ok i) :
    encode i = .frame16 (wordOfFrame ⟨0x00, b1⟩) := by
  have payload : ∀ b : Byte, field b 6 2 = 0 ∧ field b 1 4 = 0 →
      zext8 (field b 5 1) <<< 5 ||| zext8 (field b 0 1) = b := by decide
  exact encode_of_ok_ite h fun hres => frame16_congr (payload b1 hres)

theorem decodeBreathFrame_encode {b1 : Byte} {i : Instr} (h : decodeBreathFrame b1 = .ok i) :
    encode i = .frame16 (wordOfFrame ⟨0x01, b1⟩) := by
  have payload : ∀ b : Byte, field b 6 2 = 0 ∧ field b 3 1 = 0 →
      zext8 (field b 5 1) <<< 5 ||| zext8 (field b 4 1) <<< 4 ||| zext8 (field b 2 1) <<< 2
        ||| zext8 (field b 0 2) = b := by decide
  unfold decodeBreathFrame at h
  split at h
  next hres =>
    split at h <;> cases h
    next css hcss =>
      have hb := payload b1 hres
      rw [channelOf_eq_some hcss] at hb
      exact frame16_congr hb
  · cases h

theorem decodeLedModeFrame_encode {b1 : Byte} {i : Instr} (h : decodeLedModeFrame b1 = .ok i) :
    encode i = .frame16 (wordOfFrame ⟨0x02, b1⟩) := by
  have payload : ∀ b : Byte, field b 6 2 = 0 ∧ field b 0 5 = 0 → zext8 (field b 5 1) <<< 5 = b := by decide
  exact encode_of_ok_ite h fun hres => frame16_congr (payload b1 hres)

theorem decodeCurrentFrame_encode {b1 : Byte} {i : Instr} (h : decodeCurrentFrame b1 = .ok i) :
    encode i = .frame16 (wordOfFrame ⟨0x03, b1⟩) := by
  have payload : ∀ b : Byte, field b 0 2 = 0 → zext8 (field b 2 6) <<< 2 = b := by decide
  exact encode_of_ok_ite h fun hres => frame16_congr (payload b1 hres)

theorem decodeTimeZeroFrame_encode {a b1 : Byte} {i : Instr} {mk : BitVec 4 → Instr}
    (hmk : ∀ t0, encode (mk t0) = .frame16 (wordOfFrame ⟨a, zext8 t0 <<< 4⟩))
    (h : decodeTimeZeroFrame mk b1 = .ok i) : encode i = .frame16 (wordOfFrame ⟨a, b1⟩) := by
  have payload : ∀ b : Byte, field b 0 4 = 0 → zext8 (field b 4 4) <<< 4 = b := by decide
  exact encode_of_ok_ite h fun hres => (hmk _).trans (frame16_congr (payload b1 hres))

theorem decodeTimePairFrame_encode {a b1 : Byte} {i : Instr} {mk : BitVec 3 → BitVec 4 → Instr}
    (hmk : ∀ u v, encode (mk u v) = .frame16 (wordOfFrame ⟨a, zext8 u <<< 5 ||| zext8 v <<< 1⟩))
    (h : decodeTimePairFrame mk b1 = .ok i) : encode i = .frame16 (wordOfFrame ⟨a, b1⟩) := by
  have payload : ∀ b : Byte, field b 0 1 = 0 →
      zext8 (field b 5 3) <<< 5 ||| zext8 (field b 1 4) <<< 1 = b := by decide
  exact encode_of_ok_ite h fun hres => (hmk _ _).trans (frame16_congr (payload b1 hres))

theorem decodeLedControlFrame_encode {b1 : Byte} {i : Instr} (h : decodeLedControlFrame b1 = .ok i) :
    encode i = .frame16 (wordOfFrame ⟨0x1D, b1⟩) := by
  have payload : ∀ b : Byte, field b 3 5 = 0 →
      zext8 (field b 0 1) ||| zext8 (field b 1 1) <<< 1 ||| zext8 (field b 2 1) <<< 2 = b := by decide
  exact encode_of_ok_ite h fun hres => frame16_congr (payload b1 hres)

theorem decodeTriggerFrame_encode {a b1 : Byte} {i j : Instr} (hj : encode j = .frame16 (wordOfFrame ⟨a, 0⟩))
    (h : decodeTriggerFrame j b1 = .ok i) : encode i = .frame16 (wordOfFrame ⟨a, b1⟩) :=
  encode_of_ok_ite h fun hzero => hj.trans (frame16_congr hzero.symm)

/-- A frame's word, with its address written as a number. -/
theorem frame16_address {f : Frame} {a : Nat} (ha : f.b0.toNat = a) :
    Encoded.frame16 (wordOfFrame ⟨BitVec.ofNat 8 a, f.b1⟩) = .frame16 (wordOfFrame f) := by
  rw [← ha, BitVec.ofNat_toNat, BitVec.setWidth_eq]

/-- A frame that decodes is the frame of the Command it decodes to, address by address (R133). -/
theorem decodeFrame_encode {f : Frame} {i : Instr} (h : decodeFrame f = .ok i) :
    encode i = .frame16 (wordOfFrame f) := by
  unfold decodeFrame at h
  split at h
  case h_21 => cases h
  all_goals rw [← frame16_address ‹f.b0.toNat = _›]
  · exact decodeShutdownFrame_encode h
  · exact decodeBreathFrame_encode h
  · exact decodeLedModeFrame_encode h
  · exact decodeCurrentFrame_encode h
  · cases h; rfl
  · cases h; rfl
  · cases h; rfl
  · exact decodeTriggerFrame_encode rfl h
  · exact decodeTimeZeroFrame_encode (fun _ => rfl) h
  · exact decodeTimeZeroFrame_encode (fun _ => rfl) h
  · exact decodeTimeZeroFrame_encode (fun _ => rfl) h
  · exact decodeTimePairFrame_encode (fun _ _ => rfl) h
  · exact decodeTimePairFrame_encode (fun _ _ => rfl) h
  · exact decodeTimePairFrame_encode (fun _ _ => rfl) h
  · exact decodeTimePairFrame_encode (fun _ _ => rfl) h
  · exact decodeTimePairFrame_encode (fun _ _ => rfl) h
  · exact decodeTimePairFrame_encode (fun _ _ => rfl) h
  · exact decodeTriggerFrame_encode rfl h
  · exact decodeLedControlFrame_encode h
  · exact decodeTriggerFrame_encode rfl h

end Sys2Proof
end

section
/-!
PROOFS. The step without the detour through an instruction: an operation row loads its frames, a Command row is its
frame at the chip. Said twice, as an equation (`step_eq`) and as what a next state can be (`StepEffect`).
-/

namespace Sys2Proof.Machine

/-! ### What the instruction of a step does -/

/-- In `IDLE` a word that decodes is accepted: its frames are loaded and nothing else is done (R140). -/
theorem exec_decodedRequest {w : ReqWord} {i : Instr} {s : State} (hq : s.seq = .idle)
    (hd : decodeRequest s.config w = .ok i) :
    exec i s = .next (loadOperation (expand s.config i) (emit (.accepted w) s)) := by
  rw [exec_operation s (decodeRequest_encode hd), accept_legal hq ((decodeRequest_isOk _ _).mp ⟨i, hd⟩)]

/-- The Command a frame decodes to takes effect as that frame (R83, R133). -/
theorem exec_decodedFrame {f : Frame} {i : Instr} (s : State) (hd : decodeFrame f = .ok i) :
    exec i s = landFrame f s := by
  have he := decodeFrame_encode hd
  cases hi : isOperation i
  case true =>
    obtain ⟨w, hw⟩ := encode_operation hi
    cases hw.symm.trans he
  case false =>
    obtain ⟨c, hc, hrun⟩ := exec_command hi
    have hword : wordOfFrame (encodeCommand c) = wordOfFrame f := Encoded.frame16.inj (hc.symm.trans he)
    have hframe : encodeCommand c = f := by simpa using congrArg frameOfWord hword
    rw [hrun, runCommand, hframe]

/-! ### The step as a function of its sample -/

/-- Accept of an offered request (R140). -/
def requestStep (p : PortSample) (s : State) : Result :=
  if p.reqValid then
    match decodeRequest s.config p.reqWord with
    | .ok i => .next (loadOperation (expand s.config i) (emit (.accepted p.reqWord) s))
    | .error _ => .next (acceptIllegal p.reqWord s)
  else .next s

/-- BusOK and BusErr, with the frame's effect at the chip (R142, R143, R69). -/
def answerStep (p : PortSample) (s : State) : Result :=
  if p.busRspValid then
    if p.busRspOk then
      if holdsFrame s then landFrame (frameAt s.fr s.k.toNat) (frameAcked s) else .fault .frameNotHeld
    else frameFailed p.busRspErr s
  else .next s

/-- The step on sample `p`, of a state whose input was taken. -/
def sampleStep (p : PortSample) (s : State) : Result :=
  if p.rst then resetStep p s
  else
    match s.seq with
    | .idle => requestStep p s
    | .issue => issueFrame s
    | .wait => answerStep p s
    | .resp => .next (if p.rspReady then deliver s else s)

theorem step_idle {s : State} (hr : (portsNow s).rst = false) (hq : s.seq = .idle) :
    step s = requestStep (portsNow s) (consumeInput s) := by
  unfold step nextAction idleAction requestStep
  simp only [hr, hq, Bool.false_eq_true, if_false]
  cases (portsNow s).reqValid
  case false => rfl
  case true =>
    cases hd : decodeRequest (consumeInput s).config (portsNow s).reqWord
    case error r => rfl
    case ok i => exact exec_decodedRequest hq hd

theorem step_wait {s : State} (hr : (portsNow s).rst = false) (hq : s.seq = .wait) :
    step s = answerStep (portsNow s) (consumeInput s) := by
  unfold step nextAction waitAction ackAction answerStep
  simp only [hr, hq, Bool.false_eq_true, if_false]
  cases (portsNow s).busRspValid
  case false => rfl
  cases (portsNow s).busRspOk
  case false => rfl
  cases holdsFrame (consumeInput s)
  case false => rfl
  cases hd : decodeFrame (frameAt (consumeInput s).fr (consumeInput s).k.toNat)
  case error r => rfl
  case ok i => exact exec_decodedFrame _ hd

/-- The step is `sampleStep` of the sample it sees. -/
theorem step_eq (s : State) : step s = sampleStep (portsNow s) (consumeInput s) := by
  unfold sampleStep
  cases hr : (portsNow s).rst
  case true => simp [step, nextAction, hr]
  cases hq : s.seq
  case idle => simpa [hq] using step_idle hr hq
  case issue => simp [step, nextAction, hr, hq]
  case wait => simpa [hq] using step_wait hr hq
  case resp =>
    cases hy : (portsNow s).rspReady <;> simp [step, nextAction, respAction, hr, hq, hy]

theorem step_cons {s : State} {p : PortSample} {rest : List PortSample} (h : s.inputs = p :: rest) :
    step s = sampleStep p { s with inputs := rest } := by
  rw [step_eq]; unfold portsNow consumeInput; rw [h]; rfl

/-! ### What a step that answers has done -/

/-- The chip after a frame of `s` that may have had its effect (R68). -/
def MayHaveLanded (s : State) (tg : Target) : Prop :=
  tg = s.target ∨ s.seq = .wait ∧ writeTarget s.target (frameAt s.fr s.k.toNat) = some tg

/-- `t` is a next state of `s`: the kinds of step, each with what enables it and the whole next state (R140 to R144,
R156, R200, R201). -/
inductive StepEffect (s t : State) : Prop where
  | reset (tg : Target) (d : Nat) (hrst : (portsNow s).rst = true) (htg : MayHaveLanded s tg)
      (ht : t = { resetBlock (strapOf (portsNow s).strap) (consumeInput s) with target := tg, draws := d })
  | stays (hrst : (portsNow s).rst = false) (ht : t = consumeInput s)
  | accepted (i : Instr) (hrst : (portsNow s).rst = false) (hq : s.seq = .idle)
      (hd : decodeRequest s.config (portsNow s).reqWord = .ok i)
      (ht : t = loadOperation (expand s.config i) (emit (.accepted (portsNow s).reqWord) (consumeInput s)))
  | illegal (hrst : (portsNow s).rst = false) (hq : s.seq = .idle) (hl : legal s.config (portsNow s).reqWord = false)
      (ht : t = acceptIllegal (portsNow s).reqWord (consumeInput s))
  | issued (hrst : (portsNow s).rst = false) (hq : s.seq = .issue) (hf : holdsFrame s = true)
      (ht : t = { emit (.issued s.addr7 (frameAt s.fr s.k.toNat)) (consumeInput s) with seq := .wait })
  | acked (tg : Target) (hrst : (portsNow s).rst = false) (hq : s.seq = .wait) (hv : (portsNow s).busRspValid = true)
      (hf : holdsFrame s = true) (hw : writeTarget s.target (frameAt s.fr s.k.toNat) = some tg)
      (ht : t = { frameAcked (consumeInput s) with target := tg })
  | failed (tg : Target) (d : Nat) (hrst : (portsNow s).rst = false) (hq : s.seq = .wait)
      (hv : (portsNow s).busRspValid = true) (hf : holdsFrame s = true) (htg : MayHaveLanded s tg)
      (ht : t = { raiseTransportError (portsNow s).busRspErr
          (emit (.failed s.k.toNat (portsNow s).busRspErr) (consumeInput s)) with target := tg, draws := d })
  | delivered (hrst : (portsNow s).rst = false) (hq : s.seq = .resp) (ht : t = deliver (consumeInput s))

theorem step_next_effect {s t : State} (h : step s = .next t) : StepEffect s t := by
  obtain ⟨hrst, hreset⟩ | ⟨hrst, hphase⟩ := step_next_cases h
  · obtain ⟨tg, d, rfl, htg⟩ := resetStep_next hreset
    exact .reset tg d hrst htg rfl
  obtain ⟨_, _, rfl⟩ | ⟨hq, _, ⟨r, hr⟩, rfl⟩ | ⟨hq, _, i, hd, hexec⟩ | ⟨hq, hissue⟩ | ⟨_, _, rfl⟩ |
    ⟨hq, hv, _, hf, hack⟩ | ⟨hq, hv, _, hfail⟩ | ⟨_, _, rfl⟩ | ⟨hq, _, rfl⟩ := hphase
  · exact .stays hrst rfl
  · exact .illegal hrst hq (decodeRequest_error hr) rfl
  · cases (exec_decodedRequest (s := consumeInput s) hq hd).symm.trans hexec
    exact .accepted i hrst hq hd rfl
  · obtain ⟨hf, rfl⟩ := issueFrame_next hissue
    exact .issued hrst hq hf rfl
  · exact .stays hrst rfl
  · have hland : landFrame (frameAt s.fr s.k.toNat) (frameAcked (consumeInput s)) = .next t := by
      obtain ⟨i, hd, hexec⟩ | ⟨_, hland⟩ := hack
      · exact (exec_decodedFrame _ hd).symm.trans hexec
      · exact hland
    obtain ⟨tg, hw, rfl⟩ := landFrame_next hland
    rw [frameAcked_target] at hw
    exact .acked tg hrst hq hv hf hw rfl
  · obtain ⟨hf, tg, hw, rfl⟩ := frameFailed_next hfail
    refine .failed _ _ hrst hq hv hf ?_ rfl
    split
    · exact .inr ⟨hq, hw⟩
    · exact .inl rfl
  · exact .stays hrst rfl
  · exact .delivered hrst hq rfl

end Sys2Proof.Machine
end

section
/-!
PROOFS. The state's own statements: the straps' addresses, the output ports, which inputs a step reads, and what a step
may write of `ADDR7` and of the chip's registers.
-/

namespace Sys2Proof.Machine

/-- Settles O12: the table's list of four addresses has no duplicate. -/
theorem strapAddressesDistinct : Obligations.StrapAddressesDistinct := by
  intro cfg hwf p q h
  have hnodup : [cfg.addrTable.gnd, cfg.addrTable.vcc, cfg.addrTable.scl, cfg.addrTable.sda].Nodup :=
    of_decide_eq_true (Bool.and_eq_true_iff.mp hwf).1
  simp only [List.nodup_cons, List.mem_cons, List.not_mem_nil, or_false, not_or] at hnodup
  obtain ⟨⟨hgv, hgc, hgd⟩, ⟨hvc, hvd⟩, hcd, _⟩ := hnodup
  revert h
  cases p <;> cases q <;>
    simp [addressOf, hgv, hgc, hgd, hvc, hvd, hcd, Ne.symm hgv, Ne.symm hgc, Ne.symm hgd, Ne.symm hvc, Ne.symm hvd,
      Ne.symm hcd]

/-- Settles O43: port by port; no port reads `inputs`. -/
theorem outputPorts : Obligations.OutputPorts := by
  intro s ins
  refine ⟨rfl, beq_iff_eq, beq_iff_eq, beq_iff_eq, rfl, fun hq => if_pos hq, fun hq => ?_, fun hq hst => ?_⟩
  · refine (if_pos hq).trans ?_
    cases s.rspStatus <;> rfl
  · refine (if_pos hq).trans ?_
    rw [responseError, hst]

/-- Settles O24: Accept of a busy block is the state itself, and outside `IDLE` no step reads the request port. -/
theorem busyHoldsRequestBack : Obligations.BusyHoldsRequestBack := by
  refine ⟨fun i s hop hbusy => ?_, fun w w' v v' p rest s hbusy hin => ?_⟩
  · obtain ⟨w, hw⟩ := encode_operation hop
    rw [exec_operation s hw, accept_busy hbusy]
  · rw [step_cons hin, step_cons rfl]
    unfold sampleStep
    cases hq : s.seq
    case idle => exact absurd hq hbusy
    case issue => rfl
    case wait => rfl
    case resp => rfl

/-- Settles O44: with `rst` at 0, each phase's part of the step reads the named inputs alone. -/
theorem inputsReadOnlyInTheirPhase : Obligations.InputsReadOnlyInTheirPhase := by
  intro s p q rest hin hp hq
  rw [step_cons hin, step_cons rfl]
  unfold sampleStep
  simp only [hp, hq, Bool.false_eq_true, if_false]
  refine ⟨fun hs hv hw => ?_, fun hs => ?_, fun hs hv hok he => ?_, fun hs hy => ?_⟩
  · simp only [hs, requestStep, hv, hw]
  · simp only [hs]
  · simp only [hs, answerStep, hv, hok, he]
  · simp only [hs, hy]

/-- Settles O46: a reset takes the strap's address, and no other kind of step touches `ADDR7`. -/
theorem addr7WrittenOnlyAtReset : Obligations.Addr7WrittenOnlyAtReset := by
  intro s t h
  obtain ⟨_, _, hrst, _, rfl⟩ | ⟨hrst, rfl⟩ | ⟨_, hrst, _, _, rfl⟩ | ⟨hrst, _, _, rfl⟩ | ⟨hrst, _, _, rfl⟩ |
    ⟨_, hrst, _, _, _, _, rfl⟩ | ⟨_, _, hrst, _, _, _, _, rfl⟩ | ⟨hrst, _, rfl⟩ := step_next_effect h <;> simp [hrst]

/-- Settles O48: only the step that ends or abandons a frame writes the chip's registers. -/
theorem targetChangesOnlyByTheFrame : Obligations.TargetChangesOnlyByTheFrame := by
  intro s t h hne
  cases step_next_effect h with
  | reset tg d hrst htg ht =>
    subst ht
    exact htg.elim (absurd · hne) fun ⟨hq, hw⟩ => ⟨hq, .inl hrst, hw⟩
  | acked tg _ hq hv _ hw ht => subst ht; exact ⟨hq, .inr hv, hw⟩
  | failed tg d _ hq hv _ htg ht =>
    subst ht
    exact htg.elim (absurd · hne) fun ⟨_, hw⟩ => ⟨hq, .inr hv, hw⟩
  | stays _ ht => exact absurd (ht ▸ rfl) hne
  | accepted _ _ _ _ ht => exact absurd (ht ▸ rfl) hne
  | illegal _ _ _ ht => exact absurd (ht ▸ rfl) hne
  | issued _ _ _ ht => exact absurd (ht ▸ rfl) hne
  | delivered _ _ ht => exact absurd (ht ▸ rfl) hne

end Sys2Proof.Machine
end

section
/-!
PROOFS. The invariant of a run: it holds right after reset, and every step keeps it (R27, R159).
-/

namespace Sys2Proof.Machine

/-! ### The log -/

/-- A reset logs its strap, and no other kind of step logs a reset. -/
theorem StepEffect.lastReset_log {s t : State} (effect : StepEffect s t) :
    lastReset t.log = if (portsNow s).rst then some (strapOf (portsNow s).strap) else lastReset s.log := by
  obtain ⟨_, _, hrst, _, rfl⟩ | ⟨hrst, rfl⟩ | ⟨_, hrst, _, _, rfl⟩ | ⟨hrst, _, _, rfl⟩ | ⟨hrst, _, _, rfl⟩ |
    ⟨_, hrst, _, _, _, _, rfl⟩ | ⟨_, _, hrst, _, _, _, _, rfl⟩ | ⟨hrst, _, rfl⟩ := effect <;> simp [hrst, lastReset]

/-- What is logged now is logged since the acceptance. -/
theorem log_since_append {log earlier since : List Event} {w : ReqWord} (h : log = earlier ++ .accepted w :: since)
    (e : Event) : log ++ [e] = earlier ++ .accepted w :: (since ++ [e]) := by
  rw [h, List.append_assoc, List.cons_append]

/-! ### The frames of the operation in flight -/

/-- An operation has at least one Command (R145). -/
theorem expand_length_pos {i : Instr} (cfg : Config) (h : isOperation i = true) : 0 < (expand cfg i).length := by
  cases i <;> simp only [isOperation, Bool.false_eq_true] at h
  case setMode mode => cases mode <;> exact Nat.zero_lt_succ _
  all_goals exact Nat.zero_lt_succ _

theorem isOperation_of_decodeRequest {cfg : Config} {w : ReqWord} {i : Instr} (h : decodeRequest cfg w = .ok i) :
    isOperation i = true := by
  cases hi : isOperation i
  case true => rfl
  case false =>
    obtain ⟨c, hc, _⟩ := exec_command hi
    cases hc.symm.trans (decodeRequest_encode h)

theorem loadOperation_n_toNat (cfg : Config) (i : Instr) (s : State) :
    (loadOperation (expand cfg i) s).n.toNat = (framesOf cfg i).length := by
  have hle := expand_length_le cfg i
  rw [loadOperation_n, BitVec.toNat_ofNat, framesOf, List.length_map, Nat.mod_eq_of_lt (by omega)]

/-- After Accept the buffer's first frames are the operation's (R27, R140). -/
theorem loadOperation_frames (cfg : Config) (i : Instr) (s : State) :
    (bufferFrames (loadOperation (expand cfg i) s).fr).take (framesOf cfg i).length = framesOf cfg i := by
  rw [loadOperation_fr, storeFrames_buffer _ (expand_length_le cfg i)]
  exact List.take_left

theorem loadOperation_inFlight {s : State} {w : ReqWord} {i : Instr} (hd : decodeRequest s.config w = .ok i) :
    InFlight (loadOperation (expand s.config i) s) w := by
  have hn := loadOperation_n_toNat s.config i s
  refine ⟨i, hd, hn, ?_, ?_⟩
  · rw [hn, framesOf, List.length_map]
    exact expand_length_pos s.config (isOperation_of_decodeRequest hd)
  · rw [hn]; exact loadOperation_frames s.config i s

/-- One more acked frame (R159 (a)). -/
theorem ackedLog_take_succ (a7 : BusAddr) (fr : FrameBuffer) {k : Nat} (h : k < 4) :
    ackedLog a7 0 ((bufferFrames fr).take (k + 1)) =
      ackedLog a7 0 ((bufferFrames fr).take k) ++ [.issued a7 (frameAt fr k), .acked k] := by
  have hlen : k < (bufferFrames fr).length := h
  rw [List.take_succ_eq_append_getElem hlen, ackedLog_append, ← frameAt_eq_getElem fr h, Nat.zero_add,
    List.length_take_of_le hlen.le]

/-! ### What the progress of each phase says -/

theorem progress_issue {s : State} {w : ReqWord} {since : List Event} (hq : s.seq = .issue) :
    Progress s w since ↔ InFlight s w ∧ since = ackedSoFar s := by
  unfold Progress; rw [hq]

theorem progress_wait {s : State} {w : ReqWord} {since : List Event} (hq : s.seq = .wait) :
    Progress s w since ↔ InFlight s w ∧ since = ackedSoFar s ++ [.issued s.addr7 (frameAt s.fr s.k.toNat)] := by
  unfold Progress; rw [hq]

/-- BusOK moves the progress on by the frame's acked event (R142). -/
theorem frameAcked_progress {s : State} {w : ReqWord} (hf : holdsFrame s = true) (hfl : InFlight s w) :
    Progress (frameAcked s) w (ackedSoFar s ++ [.issued s.addr7 (frameAt s.fr s.k.toNat), .acked s.k.toNat]) := by
  obtain ⟨hk, hn⟩ := (holdsFrame_iff s).mp hf
  by_cases hlast : s.k.toNat + 1 = s.n.toNat
  · rw [frameAcked_last hlast]
    exact ⟨hfl, hlast, rfl⟩
  · rw [frameAcked_more hlast]
    have hk' : (s.k + 1).toNat = s.k.toNat + 1 := by
      rw [BitVec.toNat_add]
      exact Nat.mod_eq_of_lt (by omega : s.k.toNat + 1 < 4)
    refine (progress_issue rfl).mpr ⟨?_, ?_⟩
    · obtain ⟨i, hd, hlen, _, hframes⟩ := hfl
      exact ⟨i, hd, hlen, hk'.trans_lt (show s.k.toNat + 1 < s.n.toNat by omega), hframes⟩
    · show _ = ackedLog s.addr7 0 ((bufferFrames s.fr).take (s.k + 1).toNat)
      rw [hk', ackedLog_take_succ _ _ (by omega)]
      rfl

/-! ### The two halves of the invariant -/

theorem step_keeps_address {s t : State} (h : RunInv s) (hstep : step s = .next t) :
    ∃ strap, lastReset t.log = some strap ∧ t.addr7 = addressOf t.config strap := by
  obtain ⟨hreset, hkeep⟩ := addr7WrittenOnlyAtReset s t hstep
  rw [(step_next_effect hstep).lastReset_log, parametersNeverChange s t hstep]
  cases hrst : (portsNow s).rst
  case true => exact ⟨_, rfl, hreset hrst⟩
  case false => rw [hkeep hrst]; exact h.address

theorem step_keeps_operation {s t : State} (h : RunInv s) (hstep : step s = .next t) (hbusy : t.seq ≠ .idle) :
    ∃ w earlier since, t.log = earlier ++ .accepted w :: since ∧ Progress t w since := by
  have busy {q : Phase} (hq : s.seq = q) (hne : q ≠ .idle) := h.operation (hq.trans_ne hne)
  cases step_next_effect hstep with
  | reset _ _ _ _ ht => subst ht; exact absurd rfl hbusy
  | stays _ ht => subst ht; exact h.operation hbusy
  | accepted i _ _ hd ht =>
    subst ht
    exact ⟨_, s.log, [], rfl, (progress_issue rfl).mpr ⟨loadOperation_inFlight hd, rfl⟩⟩
  | illegal _ _ hl ht => subst ht; exact ⟨_, s.log, [], rfl, hl, rfl⟩
  | issued _ hq _ ht =>
    subst ht
    obtain ⟨w, earlier, since, hlog, hprog⟩ := busy hq nofun
    obtain ⟨hfl, rfl⟩ := (progress_issue hq).mp hprog
    exact ⟨w, earlier, _, log_since_append hlog _, (progress_wait rfl).mpr ⟨hfl, rfl⟩⟩
  | acked tg _ hq _ hf _ ht =>
    subst ht
    obtain ⟨w, earlier, since, hlog, hprog⟩ := busy hq nofun
    obtain ⟨hfl, rfl⟩ := (progress_wait hq).mp hprog
    refine ⟨w, earlier, _, (frameAcked_log _).trans (log_since_append hlog _), ?_⟩
    rw [List.append_assoc]
    exact frameAcked_progress (s := consumeInput s) hf hfl
  | failed _ _ _ hq _ _ _ ht =>
    subst ht
    obtain ⟨w, earlier, since, hlog, hprog⟩ := busy hq nofun
    obtain ⟨hfl, rfl⟩ := (progress_wait hq).mp hprog
    exact ⟨w, earlier, _, log_since_append hlog _, hfl, List.append_assoc ..⟩
  | delivered _ _ ht => subst ht; exact absurd rfl hbusy

/-- Settles O53: each kind of step keeps both halves of the invariant. -/
theorem stepKeepsInvariant : Obligations.StepKeepsInvariant :=
  fun _ _ h hstep => ⟨step_keeps_address h hstep, step_keeps_operation h hstep⟩

/-- Settles O52: the log holds the reset alone, and `IDLE` leaves nothing of an operation to ask for. -/
theorem invariantAtReset : Obligations.InvariantAtReset :=
  ⟨rfl, ⟨.gnd, rfl, rfl⟩, fun h => absurd rfl h⟩

end Sys2Proof.Machine
end

section
/-!
PROOFS. Two states that agree in all that can be observed give outcomes that agree so, for any number of steps
(R26, R27, R34).
-/

namespace Sys2Proof.Machine

/-! ### What visibly equal states share -/

theorem SameVisible.holdsFrame_eq {s u : State} (h : SameVisible s u) (hq : s.seq = .issue ∨ s.seq = .wait) :
    holdsFrame u = holdsFrame s := by
  obtain ⟨hn, hk, _⟩ := h.frames hq
  unfold holdsFrame; rw [hn, hk]

/-- `FR[K]` lies below `N`, where the buffers agree. -/
theorem SameVisible.frameAt_eq {s u : State} (h : SameVisible s u) (hq : s.seq = .issue ∨ s.seq = .wait)
    (hf : holdsFrame s = true) : frameAt u.fr u.k.toNat = frameAt s.fr s.k.toNat := by
  obtain ⟨_, hk, htake⟩ := h.frames hq
  obtain ⟨hkn, hn⟩ := (holdsFrame_iff s).mp hf
  have hget := congrArg (·[s.k.toNat]?) htake
  simp only [List.getElem?_take_of_lt hkn] at hget
  have hk4 : s.k.toNat < 4 := by omega
  rw [hk, frameAt_eq_getElem _ hk4, frameAt_eq_getElem _ hk4]
  exact Option.some.inj ((List.getElem?_eq_getElem _).symm.trans (hget.trans (List.getElem?_eq_getElem _)))

/-! ### The named updates keep visible equality -/

theorem SameVisible.consumeInput {s u : State} (h : SameVisible s u) :
    SameVisible (consumeInput s) (consumeInput u) :=
  ⟨h.config, h.addr7, h.seq, h.log, congrArg List.tail h.inputs, h.frames, h.response⟩

/-- The chip's registers and the draws are never seen. -/
theorem SameVisible.chip {s u : State} (h : SameVisible s u) (tg tg' : Target) (d d' : Nat) :
    SameVisible { s with target := tg, draws := d } { u with target := tg', draws := d' } :=
  ⟨h.config, h.addr7, h.seq, h.log, h.inputs, h.frames, h.response⟩

theorem log_append_congr {s u : State} (h : SameVisible s u) (e : Event) : u.log ++ [e] = s.log ++ [e] :=
  congrArg (· ++ [e]) h.log

theorem SameVisible.acceptIllegal {s u : State} (h : SameVisible s u) (w : ReqWord) :
    SameVisible (acceptIllegal w s) (acceptIllegal w u) :=
  ⟨h.config, h.addr7, rfl, log_append_congr h _, h.inputs, nofun, fun _ => ⟨rfl, rfl⟩⟩

theorem SameVisible.loadOperation {s u : State} (h : SameVisible s u) (w : ReqWord) (cfg : Config) (i : Instr) :
    SameVisible (loadOperation (expand cfg i) (emit (.accepted w) s))
      (loadOperation (expand cfg i) (emit (.accepted w) u)) := by
  refine ⟨h.config, h.addr7, rfl, log_append_congr h _, h.inputs, fun _ => ⟨rfl, rfl, ?_⟩, nofun⟩
  rw [loadOperation_n_toNat, loadOperation_frames, loadOperation_frames]

theorem SameVisible.deliver {s u : State} (h : SameVisible s u) (hq : s.seq = .resp) :
    SameVisible (deliver s) (deliver u) := by
  obtain ⟨hst, herr⟩ := h.response hq
  refine ⟨h.config, h.addr7, rfl, ?_, h.inputs, nofun, nofun⟩
  rw [deliver_log, deliver_log, h.log, hst, herr]

theorem SameVisible.resetBlock {s u : State} (h : SameVisible s u) (strap : Strap) :
    SameVisible (resetBlock strap s) (resetBlock strap u) :=
  ⟨h.config, congrArg (addressOf · strap) h.config, rfl, log_append_congr h _, h.inputs, nofun, nofun⟩

theorem SameVisible.raiseTransportError {s u : State} (h : SameVisible s u) (e : Err) (ev : Event) :
    SameVisible (raiseTransportError e (emit ev s)) (raiseTransportError e (emit ev u)) :=
  ⟨h.config, h.addr7, rfl, log_append_congr h _, h.inputs, nofun, fun _ => ⟨rfl, rfl⟩⟩

theorem SameVisible.issued {s u : State} (h : SameVisible s u) (hq : s.seq = .issue) (ev : Event) :
    SameVisible { emit ev s with seq := .wait } { emit ev u with seq := .wait } :=
  ⟨h.config, h.addr7, rfl, log_append_congr h _, h.inputs, fun _ => h.frames (.inl hq), nofun⟩

theorem SameVisible.frameAcked {s u : State} (h : SameVisible s u) (hq : s.seq = .wait) :
    SameVisible (frameAcked s) (frameAcked u) := by
  obtain ⟨hn, hk, htake⟩ := h.frames (.inr hq)
  by_cases hlast : s.k.toNat + 1 = s.n.toNat
  · rw [frameAcked_last hlast, frameAcked_last (by rw [hn, hk]; exact hlast), hk]
    exact ⟨h.config, h.addr7, rfl, log_append_congr h _, h.inputs, nofun, fun _ => ⟨rfl, rfl⟩⟩
  · rw [frameAcked_more hlast, frameAcked_more (by rw [hn, hk]; exact hlast), hk]
    exact ⟨h.config, h.addr7, rfl, log_append_congr h _, h.inputs, fun _ => ⟨hn, rfl, htake⟩, nofun⟩

/-! ### The parts of a step keep it -/

/-- Whether a frame has an effect is a matter of its address, not of what the chip holds (R51). -/
theorem writeTarget_isSome_eq (t t' : Target) (f : Frame) : (writeTarget t f).isSome = (writeTarget t' f).isSome :=
  Bool.eq_iff_iff.mpr ((writeTarget_isSome t f).trans (writeTarget_isSome t' f).symm)

/-- Two chips take a frame both, or both not. -/
theorem writeTarget_cases (t t' : Target) (f : Frame) :
    (writeTarget t f = none ∧ writeTarget t' f = none) ∨
    ∃ tg tg', writeTarget t f = some tg ∧ writeTarget t' f = some tg' := by
  have hsome := writeTarget_isSome_eq t t' f
  cases ht : writeTarget t f <;> cases ht' : writeTarget t' f <;> simp [ht, ht'] at hsome ⊢

theorem SameVisible.landFrame {s u : State} (h : SameVisible s u) (f : Frame) :
    SameOutcome SameVisible (landFrame f s) (landFrame f u) := by
  unfold Machine.landFrame
  obtain ⟨hs, hu⟩ | ⟨tg, tg', hs, hu⟩ := writeTarget_cases s.target u.target f <;> rw [hs, hu]
  · exact rfl
  · exact h.chip tg tg' _ _

theorem SameVisible.mayLandFrame {s u : State} (h : SameVisible s u) (f : Frame) :
    SameOutcome SameVisible (mayLandFrame f s) (mayLandFrame f u) := by
  unfold Machine.mayLandFrame
  obtain ⟨hs, hu⟩ | ⟨tg, tg', hs, hu⟩ := writeTarget_cases s.target u.target f <;> rw [hs, hu]
  · exact rfl
  · exact h.chip _ _ _ _

theorem SameVisible.resetStep {s u : State} (h : SameVisible s u) (p : PortSample) :
    SameOutcome SameVisible (resetStep p s) (resetStep p u) := by
  unfold Machine.resetStep
  rw [h.seq]
  by_cases hq : s.seq = .wait
  · rw [if_pos hq, if_pos hq, h.holdsFrame_eq (.inr hq)]
    cases p.transportRst
    case false => exact rfl
    cases hf : holdsFrame s
    case false => exact rfl
    rw [h.frameAt_eq (.inr hq) hf]
    exact (h.resetBlock _).mayLandFrame _
  · rw [if_neg hq, if_neg hq]
    exact h.resetBlock _

theorem SameVisible.requestStep {s u : State} (h : SameVisible s u) (p : PortSample) :
    SameOutcome SameVisible (requestStep p s) (requestStep p u) := by
  unfold Machine.requestStep
  rw [h.config]
  cases p.reqValid
  case false => exact h
  cases decodeRequest s.config p.reqWord
  case error r => exact h.acceptIllegal _
  case ok i => exact h.loadOperation _ _ i

theorem SameVisible.issueFrame {s u : State} (h : SameVisible s u) (hq : s.seq = .issue) :
    SameOutcome SameVisible (issueFrame s) (issueFrame u) := by
  unfold Machine.issueFrame
  rw [h.holdsFrame_eq (.inl hq)]
  cases hf : holdsFrame s
  case false => exact rfl
  rw [h.frameAt_eq (.inl hq) hf, h.addr7]
  exact h.issued hq _

theorem SameVisible.frameFailed {s u : State} (h : SameVisible s u) (hq : s.seq = .wait) (e : Err) :
    SameOutcome SameVisible (frameFailed e s) (frameFailed e u) := by
  unfold Machine.frameFailed
  rw [h.holdsFrame_eq (.inr hq)]
  cases hf : holdsFrame s
  case false => exact rfl
  rw [h.frameAt_eq (.inr hq) hf, (h.frames (.inr hq)).2.1]
  exact (h.raiseTransportError e _).mayLandFrame _

theorem SameVisible.answerStep {s u : State} (h : SameVisible s u) (hq : s.seq = .wait) (p : PortSample) :
    SameOutcome SameVisible (answerStep p s) (answerStep p u) := by
  unfold Machine.answerStep
  rw [h.holdsFrame_eq (.inr hq)]
  cases p.busRspValid
  case false => exact h
  cases p.busRspOk
  case false => exact h.frameFailed hq _
  cases hf : holdsFrame s
  case false => exact rfl
  rw [h.frameAt_eq (.inr hq) hf]
  exact (h.frameAcked hq).landFrame _

theorem SameVisible.sampleStep {s u : State} (h : SameVisible s u) (p : PortSample) :
    SameOutcome SameVisible (sampleStep p s) (sampleStep p u) := by
  unfold Machine.sampleStep
  rw [h.seq]
  cases p.rst
  case true => exact h.resetStep p
  cases hq : s.seq
  case idle => exact h.requestStep p
  case issue => exact h.issueFrame hq
  case wait => exact h.answerStep hq p
  case resp =>
    cases p.rspReady
    case false => exact h
    case true => exact h.deliver hq

/-! ### Any number of steps -/

theorem SameVisible.step {s u : State} (h : SameVisible s u) :
    SameOutcome SameVisible (step s) (step u) := by
  have hports : portsNow u = portsNow s := by unfold portsNow; rw [h.inputs]
  rw [step_eq, step_eq, hports]
  exact h.consumeInput.sampleStep _

/-- Settles O51: induction on the number of steps; a stop of the first step is the stop of both runs. -/
theorem unreadStateNeverObserved : Obligations.UnreadStateNeverObserved := by
  intro s u j h
  induction j generalizing s u with
  | zero => exact h
  | succ j ih =>
    have hstep := h.step
    cases hs : step s <;> cases hu : step u <;> rw [hs, hu] at hstep
    case next.next s' u' => rw [run_next hs, run_next hu]; exact ih s' u' hstep
    case fault.fault r r' => rw [run_fault hs, run_fault hu]; exact hstep
    case refused.refused r r' => rw [run_refused hs, run_refused hu]; exact hstep
    all_goals exact hstep.elim

end Sys2Proof.Machine
end

section
/-!
PROOFS. The memory rules: each Command at the chip, the addresses operations put on the bus, and what changes the
values in effect (R51, R57, R64 to R67).
-/

namespace Sys2Proof

open Machine

/-! ### Payloads as the layout writes them -/

/-- The channel code is the channel index in two bits (R102). -/
theorem channelCode_eq_index (c : Channel) : channelCode c = BitVec.ofNat 2 (channelIndex c) := by
  cases c <;> rfl

theorem encodeCommand_shutdown (en ssd : BitVec 1) :
    encodeCommand (.shutdown en ssd) = ⟨0x00, 0#2 ++ en ++ 0#4 ++ ssd⟩ := by
  decide +revert

theorem encodeCommand_breathCtrl (rm ht bme : BitVec 1) (css : Channel) :
    encodeCommand (.breathCtrl rm ht bme css) =
      ⟨0x01, 0#2 ++ rm ++ ht ++ 0#1 ++ bme ++ BitVec.ofNat 2 (channelIndex css)⟩ := by
  rw [← channelCode_eq_index, encodeCommand]
  generalize channelCode css = code
  decide +revert

theorem encodeCommand_ledMode (bm : BitVec 1) : encodeCommand (.ledMode bm) = ⟨0x02, 0#2 ++ bm ++ 0#5⟩ := by
  decide +revert

theorem encodeCommand_current (cs : BitVec 6) : encodeCommand (.current cs) = ⟨0x03, cs ++ 0#2⟩ := by
  decide +revert

theorem encodeCommand_ledControl (l1 l2 l3 : BitVec 1) :
    encodeCommand (.ledControl l1 l2 l3) = ⟨0x1D, 0#5 ++ l3 ++ l2 ++ l1⟩ := by
  decide +revert

/-- The payload of a T0 register: the code in bits 7:4 (R85). -/
theorem timeZero_payload (t0 : BitVec 4) : zext8 t0 <<< 4 = t0 ++ 0#4 := by
  decide +revert

/-- The payload of a timing pair: the first code in bits 7:5, the second in bits 4:1 (R85). -/
theorem timePair_payload (x : BitVec 3) (y : BitVec 4) : zext8 x <<< 5 ||| zext8 y <<< 1 = x ++ y ++ 0#1 := by
  decide +revert

theorem encodeCommand_t0 (c : Channel) (t0 : BitVec 4) :
    encodeCommand (.t0 c t0) = ⟨channelAddress 0x0A c, t0 ++ 0#4⟩ := by
  rw [encodeCommand, timeZero_payload]

theorem encodeCommand_t12 (c : Channel) (t1 : BitVec 3) (t2 : BitVec 4) :
    encodeCommand (.t12 c t1 t2) = ⟨channelAddress 0x10 c, t1 ++ t2 ++ 0#1⟩ := by
  rw [encodeCommand, timePair_payload]

theorem encodeCommand_t34 (c : Channel) (t3 : BitVec 3) (t4 : BitVec 4) :
    encodeCommand (.t34 c t3 t4) = ⟨channelAddress 0x16 c, t3 ++ t4 ++ 0#1⟩ := by
  rw [encodeCommand, timePair_payload]

/-- No per-channel register is an apply register (R84). -/
theorem channelAddress_not_apply {base : Byte} (hbase : base ∈ [0x04#8, 0x0A#8, 0x10#8, 0x16#8]) (c : Channel) :
    ¬ (channelAddress base c = 0x07 ∨ channelAddress base c = 0x1C) := by
  revert base; cases c <;> decide

end Sys2Proof

namespace Sys2Proof.Machine

/-! ### The Commands at the chip -/

/-- A Command changes the chip's registers by its frame's effect, and nothing else. -/
theorem runCommand_eq {c : Command} {f : Frame} {s : State} {tg : Target} (hf : encodeCommand c = f)
    (hw : writeTarget s.target f = some tg) : runCommand c s = .next { s with target := tg } := by
  rw [runCommand, hf, landFrame_eq hw]

/-- Settles O25: each control Command is its frame, and each of the frames writes one control register. -/
theorem controlCommandsWrite : Obligations.ControlCommandsWrite :=
  ⟨fun en ssd _ => runCommand_eq (encodeCommand_shutdown en ssd) rfl,
    fun rm ht bme css _ => runCommand_eq (encodeCommand_breathCtrl rm ht bme css) rfl,
    fun bm _ => runCommand_eq (encodeCommand_ledMode bm) rfl,
    fun cs _ => runCommand_eq (encodeCommand_current cs) rfl,
    fun l1 l2 l3 _ => runCommand_eq (encodeCommand_ledControl l1 l2 l3) rfl⟩

/-- Settles O26: the frame of channel c's duty writes `RAW_PWM[c]`. -/
theorem pwmCommandsWriteRaw : Obligations.PwmCommandsWriteRaw :=
  fun d _ => ⟨runCommand_eq (c := .pwm .led1 d) rfl rfl, runCommand_eq (c := .pwm .led2 d) rfl rfl,
    runCommand_eq (c := .pwm .led3 d) rfl rfl⟩

/-- Settles O27: the frame of channel c's T0 code writes `RAW_T0[c]`. -/
theorem timeZeroCommandsWriteRaw : Obligations.TimeZeroCommandsWriteRaw :=
  fun t0 _ => ⟨runCommand_eq (encodeCommand_t0 .led1 t0) rfl, runCommand_eq (encodeCommand_t0 .led2 t0) rfl,
    runCommand_eq (encodeCommand_t0 .led3 t0) rfl⟩

/-- Settles O28: the frame of channel c's pair writes `RAW_T12[c]`, or `RAW_T34[c]`. -/
theorem timePairCommandsWriteRaw : Obligations.TimePairCommandsWriteRaw :=
  fun x y _ => ⟨runCommand_eq (encodeCommand_t12 .led1 x y) rfl, runCommand_eq (encodeCommand_t12 .led2 x y) rfl,
    runCommand_eq (encodeCommand_t12 .led3 x y) rfl, runCommand_eq (encodeCommand_t34 .led1 x y) rfl,
    runCommand_eq (encodeCommand_t34 .led2 x y) rfl, runCommand_eq (encodeCommand_t34 .led3 x y) rfl⟩

/-- Only the two update Commands have an address of R65 or R66, and both send payload 0. -/
theorem encodeCommand_apply_payload {c : Command} (h : (encodeCommand c).b0 = 0x07 ∨ (encodeCommand c).b0 = 0x1C) :
    (encodeCommand c).b1 = 0 := by
  cases c
  case pwmUpdate => rfl
  case timeUpdate => rfl
  case pwm ch _ => exact absurd h (channelAddress_not_apply (by decide) ch)
  case t0 ch _ => exact absurd h (channelAddress_not_apply (by decide) ch)
  case t12 ch _ _ => exact absurd h (channelAddress_not_apply (by decide) ch)
  case t34 ch _ _ => exact absurd h (channelAddress_not_apply (by decide) ch)
  all_goals exact absurd h (by simp [encodeCommand])

/-- Settles O29: the effect at an apply register does not read the payload. -/
theorem applyFramesLatch : Obligations.ApplyFramesLatch :=
  ⟨fun _ => encodeCommand_apply_payload, fun _ _ => rfl, fun _ _ => rfl,
    fun _ => runCommand_eq (c := .pwmUpdate) rfl rfl, fun _ => runCommand_eq (c := .timeUpdate) rfl rfl⟩

/-- Settles O30: the frame of `CMD_RESET` leaves the factory target. -/
theorem resetCommandRestoresDefaults : Obligations.ResetCommandRestoresDefaults :=
  fun _ => runCommand_eq (c := .reset) rfl rfl

/-! ### The addresses on the bus -/

/-- Operations that between them put every address of R51 on the bus. -/
def coveringOperations : List Instr :=
  [.shutdown 0 0, .setMode (.breathing .auto .none), .setMaxCurrent 0, .setPwm 0 0 0, .setTiming .led1 0 0 0 0 0,
    .setTiming .led2 0 0 0 0 0, .setTiming .led3 0 0 0 0 0, .setLedPower 0 0 0, .reset]

theorem coveringOperations_emit : ∀ a ∈ emittedAddresses, ∃ i ∈ coveringOperations,
    i.wellFormed Config.default = true ∧ ∃ f ∈ framesOf Config.default i, f.b0 = a := by
  decide

theorem framesOf_address {cfg : Config} {i : Instr} {f : Frame} (h : f ∈ framesOf cfg i) : f.b0 ∈ emittedAddresses := by
  obtain ⟨c, _, rfl⟩ := List.mem_map.mp h
  exact encodeCommand_address c

/-- Settles O11: `coveringOperations` emit each of the 20, and a Command has no other address. -/
theorem emittedAddressesExactlyTwenty : Obligations.EmittedAddressesExactlyTwenty := by
  refine fun a => ⟨fun ha => ?_, fun ⟨_, _, _, _, hf, ha⟩ => ha ▸ framesOf_address hf⟩
  obtain ⟨i, _, hwf, hemits⟩ := coveringOperations_emit a ha
  exact ⟨Config.default, i, hwf, hemits⟩

/-! ### The values in effect -/

/-- The values in effect after a frame: as before, or it is a frame at an apply or at the reset register. -/
theorem writeTarget_active {t t' : Target} {f : Frame} (h : writeTarget t f = some t') :
    f.b0 = 0x2F ∨
    ((t'.actPwm = t.actPwm ∨ f.b0 = 0x07) ∧
      ((t'.actT0 = t.actT0 ∧ t'.actT12 = t.actT12 ∧ t'.actT34 = t.actT34) ∨ f.b0 = 0x1C)) := by
  unfold writeTarget at h
  split at h
  case h_8 ha => cases h; exact .inr ⟨.inr (BitVec.eq_of_toNat_eq ha), .inl ⟨rfl, rfl, rfl⟩⟩
  case h_18 ha => cases h; exact .inr ⟨.inl rfl, .inr (BitVec.eq_of_toNat_eq ha)⟩
  case h_20 ha => exact .inl (BitVec.eq_of_toNat_eq ha)
  case h_21 => cases h
  all_goals cases h; exact .inr ⟨.inl rfl, .inl ⟨rfl, rfl, rfl⟩⟩

/-- Settles O49: the chip changes only by the frame in `WAIT`, and of the frames only those change a value in effect. -/
theorem activeValuesNeedAnApply : Obligations.ActiveValuesNeedAnApply := by
  intro s t h
  have frame (hne : t.target ≠ s.target) := targetChangesOnlyByTheFrame s t h hne
  refine ⟨fun hpwm => ?_, fun htiming => ?_⟩
  · obtain ⟨hq, _, hw⟩ := frame fun he => hpwm (by rw [he])
    exact ⟨hq, (writeTarget_active hw).elim .inr fun ⟨hact, _⟩ => .inl (hact.resolve_left hpwm)⟩
  · obtain ⟨hq, _, hw⟩ := frame fun he => by simp [he] at htiming
    refine ⟨hq, (writeTarget_active hw).elim .inr fun ⟨_, hact⟩ => .inl (hact.resolve_left ?_)⟩
    rintro ⟨h0, h12, h34⟩
    simp [h0, h12, h34] at htiming

end Sys2Proof.Machine
end

section
/-!
PROOFS. A legal operation from the offered word to the delivered response (R58, R142, R159, R212): the state before
each of its frames as a closed form, the step that reaches the next one, and the run they make.
-/

namespace Sys2Proof.Machine

/-! ### Runs in two parts -/

theorem run_add {j : Nat} {s t : State} (m : Nat) (h : Host.Core.run core j s = .next t) :
    Host.Core.run core (j + m) s = Host.Core.run core m t := by
  induction j generalizing s with
  | zero => cases h; rw [Nat.zero_add]
  | succ j ih =>
    rw [Nat.succ_add]
    cases hs : step s
    case next u => rw [run_next hs] at h ⊢; exact ih h
    case fault r => rw [run_fault hs] at h; cases h
    case refused r => rw [run_refused hs] at h; cases h

theorem run_one {s t : State} (h : step s = .next t) : Host.Core.run core 1 s = .next t :=
  run_next h

/-! ### Issue, BusOK and Deliver as equations -/

/-- Issue (R141). -/
theorem step_issue {s : State} (hrst : (portsNow s).rst = false) (hq : s.seq = .issue) (hf : holdsFrame s = true) :
    step s = .next { emit (.issued s.addr7 (frameAt s.fr s.k.toNat)) (consumeInput s) with seq := .wait } := by
  rw [step_eq]
  simp only [sampleStep, hrst, consumeInput_seq, hq, Bool.false_eq_true, if_false]
  exact if_pos hf

/-- BusOK, with the frame's effect at the chip (R142, R69). -/
theorem step_busOk {s : State} {tg : Target} (hrst : (portsNow s).rst = false) (hq : s.seq = .wait)
    (hv : (portsNow s).busRspValid = true) (hok : (portsNow s).busRspOk = true) (hf : holdsFrame s = true)
    (hw : writeTarget s.target (frameAt s.fr s.k.toNat) = some tg) :
    step s = .next { frameAcked (consumeInput s) with target := tg } := by
  rw [step_wait hrst hq, answerStep, if_pos hv, if_pos hok]
  exact (if_pos hf).trans (landFrame_eq ((frameAcked_target _).symm ▸ hw))

/-- Deliver (R144). -/
theorem step_deliver {s : State} (hrst : (portsNow s).rst = false) (hq : s.seq = .resp)
    (hy : (portsNow s).rspReady = true) : step s = .next (deliver (consumeInput s)) := by
  rw [step_eq]
  simp [sampleStep, hrst, hq, hy]

/-! ### The chip after an operation's frames -/

theorem afterFrames_append (fs : List Frame) (f : Frame) (t : Target) :
    afterFrames (fs ++ [f]) t = (writeTarget (afterFrames fs t) f).getD (afterFrames fs t) := by
  simp [afterFrames]

/-- A frame of an operation has an effect at the chip (R51). -/
theorem writeTarget_afterFrames {cfg : Config} {i : Instr} {k : Nat} (t : Target) (h : k < (framesOf cfg i).length) :
    writeTarget (afterFrames ((framesOf cfg i).take k) t) (framesOf cfg i)[k] =
      some (afterFrames ((framesOf cfg i).take (k + 1)) t) := by
  have hsome := (writeTarget_isSome (afterFrames ((framesOf cfg i).take k) t) _).mpr
    (framesOf_address (List.getElem_mem h))
  obtain ⟨tg, hw⟩ := Option.isSome_iff_exists.mp hsome
  rw [List.take_succ_eq_append_getElem h, afterFrames_append, hw, Option.getD_some]

/-! ### The state before each frame -/

/-- The state before frame `k` of the operation `i` is issued, when it was accepted in `s` as the word `w` and the
frames before were acked; `ins` are the samples to come. -/
def beforeFrame (s : State) (w : ReqWord) (i : Instr) (k : Nat) (ins : List PortSample) : State :=
  { loadOperation (expand s.config i) s with
    k := BitVec.ofNat 2 k
    log := s.log ++ .accepted w :: ackedLog s.addr7 0 ((framesOf s.config i).take k)
    target := afterFrames ((framesOf s.config i).take k) s.target
    inputs := ins }

/-- The state in which frame `k` of the operation was issued and is not answered yet. -/
def awaitingAnswer (s : State) (w : ReqWord) (i : Instr) (k : Nat) (ins : List PortSample) : State :=
  { emit (.issued s.addr7 (frameAt (storeFrames s.fr 0 (expand s.config i)) k)) (beforeFrame s w i k ins) with
    seq := .wait }

section
variable {s : State} {w : ReqWord} {i : Instr} {k : Nat} {ins : List PortSample}

theorem framesOf_length_le (cfg : Config) (i : Instr) : (framesOf cfg i).length ≤ 4 := by
  rw [framesOf, List.length_map]; exact expand_length_le cfg i

theorem beforeFrame_n : (beforeFrame s w i k ins).n.toNat = (framesOf s.config i).length :=
  loadOperation_n_toNat s.config i s

theorem beforeFrame_k (h : k < (framesOf s.config i).length) : (beforeFrame s w i k ins).k.toNat = k := by
  have hle := framesOf_length_le s.config i
  exact Nat.mod_eq_of_lt (by omega : k < 4)

theorem beforeFrame_holdsFrame (h : k < (framesOf s.config i).length) :
    holdsFrame (beforeFrame s w i k ins) = true := by
  rw [holdsFrame_iff, beforeFrame_n, beforeFrame_k h]
  exact ⟨h, framesOf_length_le s.config i⟩

theorem awaitingAnswer_n : (awaitingAnswer s w i k ins).n.toNat = (framesOf s.config i).length :=
  loadOperation_n_toNat s.config i s

theorem awaitingAnswer_k (h : k < (framesOf s.config i).length) : (awaitingAnswer s w i k ins).k.toNat = k :=
  beforeFrame_k (w := w) (ins := ins) h

/-- The buffer holds the operation's frames (R27). -/
theorem storeFrames_frame (h : k < (framesOf s.config i).length) :
    frameAt (storeFrames s.fr 0 (expand s.config i)) k = (framesOf s.config i)[k] := by
  have hle := framesOf_length_le s.config i
  have hframes := loadOperation_frames s.config i s
  rw [frameAt_eq_getElem _ (by omega)]
  exact List.getElem_take.symm.trans (List.getElem_of_eq hframes (by rwa [hframes]))

/-- The log of one more frame issued and acked (R159 (a)). -/
theorem ackedLog_framesOf_succ (a7 : BusAddr) (h : k < (framesOf s.config i).length) :
    ackedLog a7 0 ((framesOf s.config i).take (k + 1)) =
      ackedLog a7 0 ((framesOf s.config i).take k) ++
        [.issued a7 (frameAt (storeFrames s.fr 0 (expand s.config i)) k), .acked k] := by
  rw [List.take_succ_eq_append_getElem h, ackedLog_append, List.length_take_of_le h.le, Nat.zero_add,
    storeFrames_frame h]

/-- Frame `k` has its effect at the chip that the frames before it left (R64 to R67). -/
theorem beforeFrame_writeTarget (h : k < (framesOf s.config i).length) :
    writeTarget (beforeFrame s w i k ins).target
        (frameAt (beforeFrame s w i k ins).fr (beforeFrame s w i k ins).k.toNat) =
      some (afterFrames ((framesOf s.config i).take (k + 1)) s.target) := by
  rw [beforeFrame_k h]
  exact (congrArg _ (storeFrames_frame h)).trans (writeTarget_afterFrames s.target h)

/-! ### From each frame to the next -/

/-- Accept leads to the first frame (R140). -/
theorem step_accept (hq : s.seq = .idle) (hd : decodeRequest s.config w = .ok i)
    (hin : s.inputs = offerSample w :: ins) : step s = .next (beforeFrame s w i 0 ins) := by
  rw [step_cons hin]
  simp only [sampleStep, hq, offerSample, PortSample.quiet, requestStep, hd, Bool.false_eq_true, if_false, if_true]
  rfl

/-- Issue of frame `k` (R141). -/
theorem step_beforeFrame (h : k < (framesOf s.config i).length) :
    step (beforeFrame s w i k (.quiet :: ins)) = .next (awaitingAnswer s w i k ins) := by
  rw [step_issue rfl rfl (beforeFrame_holdsFrame h), beforeFrame_k h]
  rfl

/-- BusOK of frame `k` (R142, R69). -/
theorem step_awaitingAnswer (h : k < (framesOf s.config i).length) :
    step (awaitingAnswer s w i k (ackSample :: ins)) = .next
      { frameAcked (awaitingAnswer s w i k ins) with
        target := afterFrames ((framesOf s.config i).take (k + 1)) s.target } :=
  step_busOk rfl rfl rfl rfl (beforeFrame_holdsFrame (w := w) (ins := ackSample :: ins) h)
    (beforeFrame_writeTarget (w := w) (ins := ackSample :: ins) h)

/-- BusOK of a frame that is not the last leads to the next frame (R142). -/
theorem frameAcked_awaitingAnswer (h : k + 1 < (framesOf s.config i).length) :
    { frameAcked (awaitingAnswer s w i k ins) with
        target := afterFrames ((framesOf s.config i).take (k + 1)) s.target } = beforeFrame s w i (k + 1) ins := by
  have hmore : (awaitingAnswer s w i k ins).k.toNat + 1 ≠ (awaitingAnswer s w i k ins).n.toNat := by
    rw [awaitingAnswer_k (Nat.lt_of_succ_lt h), awaitingAnswer_n]; exact h.ne
  rw [frameAcked_more hmore, awaitingAnswer_k (Nat.lt_of_succ_lt h)]
  simp [beforeFrame, awaitingAnswer, emit, ackedLog_framesOf_succ s.addr7 (Nat.lt_of_succ_lt h), BitVec.ofNat_add]

/-- From the offer to frame `k`, the frames before it acked. -/
theorem run_beforeFrame (hq : s.seq = .idle) (hd : decodeRequest s.config w = .ok i)
    (h : k < (framesOf s.config i).length) (hin : s.inputs = offerSample w :: (ackedFrames k ++ ins)) :
    Host.Core.run core (1 + 2 * k) s = .next (beforeFrame s w i k ins) := by
  induction k generalizing ins with
  | zero => exact run_one (step_accept hq hd hin)
  | succ k ih =>
    have hprev := ih (Nat.lt_of_succ_lt h) (ins := .quiet :: ackSample :: ins) (by simp [hin, ackedFrames_succ])
    rw [show 1 + 2 * (k + 1) = 1 + 2 * k + 2 by omega, run_add 2 hprev, run_next (step_beforeFrame (by omega)),
      run_one (step_awaitingAnswer (by omega)), frameAcked_awaitingAnswer h]

/-- The last frame acked, the response is OK (R142). -/
theorem frameAcked_awaitingAnswer_last (h : k + 1 = (framesOf s.config i).length) :
    frameAcked (awaitingAnswer s w i k ins) = respond .ok none (emit (.acked k) (awaitingAnswer s w i k ins)) := by
  have hlast : (awaitingAnswer s w i k ins).k.toNat + 1 = (awaitingAnswer s w i k ins).n.toNat := by
    rw [awaitingAnswer_k h.le, awaitingAnswer_n]; exact h
  rw [frameAcked_last hlast, awaitingAnswer_k h.le]

end

/-- Settles O55: the frames before the last by `run_beforeFrame`, then Issue, BusOK and Deliver. -/
theorem operationRunsToCompletion : Obligations.OperationRunsToCompletion := by
  intro s w i rest hq hd hin
  obtain ⟨k, hk⟩ : ∃ k, (framesOf s.config i).length = k + 1 :=
    Nat.exists_eq_succ_of_ne_zero <| by
      rw [framesOf, List.length_map]
      exact (expand_length_pos s.config (isOperation_of_decodeRequest hd)).ne'
  have hlt : k < (framesOf s.config i).length := by omega
  have hbefore := run_beforeFrame (k := k) (ins := .quiet :: ackSample :: takeSample :: rest) hq hd hlt
    (by simp [hin, completeSchedule, hk, ackedFrames_succ])
  rw [hk, show 2 + 2 * (k + 1) = 1 + 2 * k + 3 by omega, run_add 3 hbefore, run_next (step_beforeFrame hlt),
    run_next (step_awaitingAnswer hlt), frameAcked_awaitingAnswer_last hk.symm]
  have htake : (framesOf s.config i).take (k + 1) = framesOf s.config i := List.take_of_length_le hk.le
  refine ⟨_, run_one (step_deliver rfl rfl rfl), rfl, rfl, rfl, rfl, ?_, ?_⟩
  · have hlog := ackedLog_framesOf_succ s.addr7 hlt
    rw [htake] at hlog
    rw [hlog]
    simp [awaitingAnswer, beforeFrame, responseError]
  · simp [htake]

end Sys2Proof.Machine
end

section
/-!
PROOFS. The encoders against the decoder: the encoding of every instruction decodes to it once its codes pass the check
of R104 (`decode_encode`), and so decode and encode are inverse to each other (R101, R108, R133).
-/

namespace Sys2Proof

/-! ### Request words: encode, then decode -/

theorem decodeRequest_requestSetMaxCurrent (cfg : Config) (cs : BitVec 6) :
    decodeRequest cfg (requestSetMaxCurrent cs) = checkCodes cfg (.setMaxCurrent cs) := by
  have fields : field (requestSetMaxCurrent cs) 6 22 = 0 ∧ field (requestSetMaxCurrent cs) 0 6 = cs := by
    simp (disch := omega) only [requestSetMaxCurrent, field_append_high, field_append_low, field_whole, Nat.sub_self]
    trivial
  simp [decodeRequest, opcode_requestSetMaxCurrent, fields]

theorem decodeRequest_requestSetPwm (cfg : Config) (r g b : Byte) :
    decodeRequest cfg (requestSetPwm r g b) = .ok (.setPwm r g b) := by
  have fields : field (requestSetPwm r g b) 24 4 = 0 ∧ field (requestSetPwm r g b) 0 8 = r ∧
      field (requestSetPwm r g b) 8 8 = g ∧ field (requestSetPwm r g b) 16 8 = b := by
    simp (disch := omega) only [requestSetPwm, field_append_high, field_append_low, field_whole, Nat.reduceSub]
    trivial
  simp [decodeRequest, opcode_requestSetPwm, fields]

/-- The fields of the three one-channel PWM words (R93 to R95). -/
theorem field_requestSetPwmLed {w : ReqWord} {op : BitVec 4} {v : Byte} (h : w = op ++ 0#20 ++ v) :
    field w 8 20 = 0 ∧ field w 0 8 = v := by
  subst h
  simp (disch := omega) only [field_append_high, field_append_low, field_whole, Nat.sub_self]
  trivial

theorem decodeRequest_requestSetPwmLed1 (cfg : Config) (v : Byte) :
    decodeRequest cfg (requestSetPwmLed1 v) = .ok (.setPwmLed1 v) := by
  simp [decodeRequest, opcode_requestSetPwmLed1, field_requestSetPwmLed (v := v) (w := requestSetPwmLed1 v) rfl]

theorem decodeRequest_requestSetPwmLed2 (cfg : Config) (v : Byte) :
    decodeRequest cfg (requestSetPwmLed2 v) = .ok (.setPwmLed2 v) := by
  simp [decodeRequest, opcode_requestSetPwmLed2, field_requestSetPwmLed (v := v) (w := requestSetPwmLed2 v) rfl]

theorem decodeRequest_requestSetPwmLed3 (cfg : Config) (v : Byte) :
    decodeRequest cfg (requestSetPwmLed3 v) = .ok (.setPwmLed3 v) := by
  simp [decodeRequest, opcode_requestSetPwmLed3, field_requestSetPwmLed (v := v) (w := requestSetPwmLed3 v) rfl]

theorem decodeRequest_requestSetTiming (cfg : Config) (ch : Channel) (t0 : BitVec 4) (t1 : BitVec 3) (t2 : BitVec 4)
    (t3 : BitVec 3) (t4 : BitVec 4) :
    decodeRequest cfg (requestSetTiming ch t0 t1 t2 t3 t4) = checkCodes cfg (.setTiming ch t0 t1 t2 t3 t4) := by
  have hop := opcode_requestSetTiming ch t0 t1 t2 t3 t4
  generalize hw : requestSetTiming ch t0 t1 t2 t3 t4 = w at hop ⊢
  have fields : (field w 26 2 = 0 ∧ field w 20 4 = 0 ∧ field w 15 1 = 0 ∧ field w 7 1 = 0) ∧
      field w 24 2 = channelCode ch ∧ field w 0 4 = t0 ∧ field w 4 3 = t1 ∧ field w 8 4 = t2 ∧ field w 12 3 = t3 ∧
      field w 16 4 = t4 := by
    subst hw
    simp (disch := omega) only [requestSetTiming, field_append_high, field_append_low, field_whole, Nat.reduceSub]
    trivial
  simp [decodeRequest, decodeSetTiming, hop, fields]

/-- The thirteen `SET_MODE` words. -/
theorem decodeRequest_requestSetMode (cfg : Config) (mode : Mode) :
    decodeRequest cfg (requestSetMode mode) = .ok (.setMode mode) := by
  rcases mode with _ | ⟨sm, _ | ch⟩
  · rfl
  · cases sm <;> rfl
  · cases sm <;> cases ch <;> rfl

theorem decodeRequest_requestShutdown (cfg : Config) (en ssd : BitVec 1) :
    decodeRequest cfg (requestShutdown en ssd) = .ok (.shutdown en ssd) := by
  have fields : field (requestShutdown en ssd) 6 22 = 0 ∧ field (requestShutdown en ssd) 1 4 = 0 ∧
      field (requestShutdown en ssd) 5 1 = en ∧ field (requestShutdown en ssd) 0 1 = ssd := by
    decide +revert
  simp [decodeRequest, opcode_requestShutdown, fields]

theorem decodeRequest_requestSetLedPower (cfg : Config) (l1 l2 l3 : BitVec 1) :
    decodeRequest cfg (requestSetLedPower l1 l2 l3) = .ok (.setLedPower l1 l2 l3) := by
  have fields : field (requestSetLedPower l1 l2 l3) 3 25 = 0 ∧ field (requestSetLedPower l1 l2 l3) 0 1 = l1 ∧
      field (requestSetLedPower l1 l2 l3) 1 1 = l2 ∧ field (requestSetLedPower l1 l2 l3) 2 1 = l3 := by
    decide +revert
  simp [decodeRequest, opcode_requestSetLedPower, fields]

/-! ### Frames: encode, then decode -/

theorem decode_commandWord (cfg : Config) (c : Command) : decode cfg (commandWord c) = decodeFrame (encodeCommand c) := by
  rw [commandWord, decode, frameOfWord_wordOfFrame]

theorem decodeFrame_shutdown (en ssd : BitVec 1) :
    decodeFrame (encodeCommand (.shutdown en ssd)) = .ok (.cmdShutdown en ssd) := by
  decide +revert

theorem decodeFrame_breathCtrl (rm ht bme : BitVec 1) (css : Channel) :
    decodeFrame (encodeCommand (.breathCtrl rm ht bme css)) = .ok (.cmdBreathCtrl rm ht bme css) := by
  cases css <;> decide +revert

theorem decodeFrame_ledMode (bm : BitVec 1) : decodeFrame (encodeCommand (.ledMode bm)) = .ok (.cmdLedMode bm) := by
  decide +revert

theorem decodeFrame_current (cs : BitVec 6) : decodeFrame (encodeCommand (.current cs)) = .ok (.cmdCurrent cs) := by
  decide +revert

theorem decodeFrame_ledControl (l1 l2 l3 : BitVec 1) :
    decodeFrame (encodeCommand (.ledControl l1 l2 l3)) = .ok (.cmdLedControl l1 l2 l3) := by
  decide +revert

/-- The T0 payload read back, whichever the channel (R85). -/
theorem decodeTimeZeroFrame_payload (mk : BitVec 4 → Instr) (t0 : BitVec 4) :
    decodeTimeZeroFrame mk (zext8 t0 <<< 4) = .ok (mk t0) := by
  have fields : field (zext8 t0 <<< 4) 0 4 = 0 ∧ field (zext8 t0 <<< 4) 4 4 = t0 := by decide +revert
  simp [decodeTimeZeroFrame, fields]

/-- The payload of a timing pair read back, whichever the channel and the pair (R85). -/
theorem decodeTimePairFrame_payload (mk : BitVec 3 → BitVec 4 → Instr) (x : BitVec 3) (y : BitVec 4) :
    decodeTimePairFrame mk (zext8 x <<< 5 ||| zext8 y <<< 1) = .ok (mk x y) := by
  have fields : field (zext8 x <<< 5 ||| zext8 y <<< 1) 0 1 = 0 ∧ field (zext8 x <<< 5 ||| zext8 y <<< 1) 5 3 = x ∧
      field (zext8 x <<< 5 ||| zext8 y <<< 1) 1 4 = y := by decide +revert
  simp [decodeTimePairFrame, fields]

/-! ### Both formats -/

/-- The encoding of an instruction decodes to it, up to the check of its codes (R104, R108, R133). -/
theorem decode_encode (cfg : Config) (i : Instr) : decode cfg (encode i) = checkCodes cfg i := by
  cases i with
  | setMaxCurrent cs => exact decodeRequest_requestSetMaxCurrent cfg cs
  | setPwm r g b => exact decodeRequest_requestSetPwm cfg r g b
  | setPwmLed1 v => exact decodeRequest_requestSetPwmLed1 cfg v
  | setPwmLed2 v => exact decodeRequest_requestSetPwmLed2 cfg v
  | setPwmLed3 v => exact decodeRequest_requestSetPwmLed3 cfg v
  | setTiming ch t0 t1 t2 t3 t4 => exact decodeRequest_requestSetTiming cfg ch t0 t1 t2 t3 t4
  | setMode mode => exact decodeRequest_requestSetMode cfg mode
  | shutdown en ssd => exact decodeRequest_requestShutdown cfg en ssd
  | setLedPower l1 l2 l3 => exact decodeRequest_requestSetLedPower cfg l1 l2 l3
  | reset => rfl
  | cmdShutdown en ssd => exact (decode_commandWord _ _).trans (decodeFrame_shutdown en ssd)
  | cmdBreathCtrl rm ht bme css => exact (decode_commandWord _ _).trans (decodeFrame_breathCtrl rm ht bme css)
  | cmdLedMode bm => exact (decode_commandWord _ _).trans (decodeFrame_ledMode bm)
  | cmdCurrent cs => exact (decode_commandWord _ _).trans (decodeFrame_current cs)
  | cmdPwm0 _ => exact decode_commandWord _ _
  | cmdPwm1 _ => exact decode_commandWord _ _
  | cmdPwm2 _ => exact decode_commandWord _ _
  | cmdPwmUpdate => rfl
  | cmdTimeZero0 t0 => exact (decode_commandWord _ _).trans (decodeTimeZeroFrame_payload _ t0)
  | cmdTimeZero1 t0 => exact (decode_commandWord _ _).trans (decodeTimeZeroFrame_payload _ t0)
  | cmdTimeZero2 t0 => exact (decode_commandWord _ _).trans (decodeTimeZeroFrame_payload _ t0)
  | cmdTimeOneTwo0 t1 t2 => exact (decode_commandWord _ _).trans (decodeTimePairFrame_payload _ t1 t2)
  | cmdTimeOneTwo1 t1 t2 => exact (decode_commandWord _ _).trans (decodeTimePairFrame_payload _ t1 t2)
  | cmdTimeOneTwo2 t1 t2 => exact (decode_commandWord _ _).trans (decodeTimePairFrame_payload _ t1 t2)
  | cmdTimeThreeFour0 t3 t4 => exact (decode_commandWord _ _).trans (decodeTimePairFrame_payload _ t3 t4)
  | cmdTimeThreeFour1 t3 t4 => exact (decode_commandWord _ _).trans (decodeTimePairFrame_payload _ t3 t4)
  | cmdTimeThreeFour2 t3 t4 => exact (decode_commandWord _ _).trans (decodeTimePairFrame_payload _ t3 t4)
  | cmdTimeUpdate => rfl
  | cmdLedControl l1 l2 l3 => exact (decode_commandWord _ _).trans (decodeFrame_ledControl l1 l2 l3)
  | cmdReset => rfl

theorem checkCodes_wellFormed {cfg : Config} {i : Instr} (h : i.wellFormed cfg = true) : checkCodes cfg i = .ok i :=
  if_pos h

/-- What decodes in either format encodes back to the word (R101, R108, R133). -/
theorem encode_of_decode {cfg : Config} {e : Encoded} {i : Instr} (h : decode cfg e = .ok i) : encode i = e := by
  cases e with
  | req32 w => exact decodeRequest_encode h
  | frame16 w => exact (decodeFrame_encode h).trans (congrArg _ (wordOfFrame_frameOfWord w))

/-- Settles O2: the encoding decodes to the instruction once its codes pass the check. -/
theorem encodeThenDecode : Obligations.EncodeThenDecode :=
  fun cfg i hwf => (decode_encode cfg i).trans (checkCodes_wellFormed hwf)

/-- Settles O3: the word is the encoding, so decoding it has checked the instruction's codes. -/
theorem decodeThenEncode : Obligations.DecodeThenEncode := by
  intro cfg e i h
  have he := encode_of_decode h
  have hcheck : checkCodes cfg i = .ok i := by rw [← decode_encode, he, h]
  exact ⟨he, checkCodes_isOk.mp ⟨i, hcheck⟩⟩

/-- Settles O1: the decoder evaluated at the twelve words. -/
theorem specWordsDecode : Obligations.SpecWordsDecode := by
  unfold Obligations.SpecWordsDecode
  decide

/-- Settles O4: opcode by opcode, in `decodeRequest_isOk`. -/
theorem decodeAcceptsExactlyLegalWords : Obligations.DecodeAcceptsExactlyLegalWords :=
  decodeRequest_isOk

end Sys2Proof
end

section
/-!
PROOFS. The legal words: an operation's word is legal exactly if the operation is well formed, and no legal word has a
reserved opcode or a reserved bit set (R101, R104, R105).
-/

namespace Sys2Proof

open Machine

/-- The word of an operation is legal exactly if the operation's codes are (R104). -/
theorem legal_encode {cfg : Config} {i : Instr} {w : ReqWord} (h : encode i = .req32 w) :
    legal cfg w = i.wellFormed cfg := by
  have hd : decodeRequest cfg w = checkCodes cfg i := by rw [← decode_encode, h]; rfl
  rw [Bool.eq_iff_iff, ← decodeRequest_isOk, hd, checkCodes_isOk]

theorem decodeRequest_ne_ok {cfg : Config} {w : ReqWord} (h : legal cfg w = false) (i : Instr) :
    decodeRequest cfg w ≠ .ok i := by
  intro hi
  cases h.symm.trans ((decodeRequest_isOk cfg w).mp ⟨i, hi⟩)

theorem legal_reservedOpcode {cfg : Config} {w : ReqWord} (h : 0xA ≤ (field w 28 4).toNat) : legal cfg w = false := by
  unfold legal
  generalize field w 28 4 = op at h ⊢
  have hop : op ≠ 0x0#4 ∧ op ≠ 0x1#4 ∧ op ≠ 0x2#4 ∧ op ≠ 0x3#4 ∧ op ≠ 0x4#4 ∧ op ≠ 0x5#4 ∧ op ≠ 0x6#4 ∧ op ≠ 0x7#4 ∧
      op ≠ 0x8#4 ∧ op ≠ 0x9#4 := by
    revert op; decide
  simp [hop]

/-- Settles O5: `Legal` has no case for these opcodes. -/
theorem reservedOpcodesSelectNothing : Obligations.ReservedOpcodesSelectNothing :=
  fun _ _ h => ⟨legal_reservedOpcode h, decodeRequest_ne_ok (legal_reservedOpcode h)⟩

/-! ### Reserved bits as fields -/

/-- The reserved fields of each opcode's layout, as (low bit, length) (R91 to R100). -/
def reservedFields (op : BitVec 4) : List (Nat × Nat) :=
  match op.toNat with
  | 0x0 => [(6, 22)]
  | 0x1 => [(24, 4)]
  | 0x2 => [(8, 20)]
  | 0x3 => [(8, 20)]
  | 0x4 => [(8, 20)]
  | 0x5 => [(26, 2), (20, 4), (15, 1), (7, 1)]
  | 0x6 => [(14, 14), (9, 3), (6, 2), (1, 3)]
  | 0x7 => [(6, 22), (1, 4)]
  | 0x8 => [(3, 25)]
  | 0x9 => [(0, 28)]
  | _ => []

/-- The word with ones in one field, (low bit, length), and zeros elsewhere. -/
def fieldMask (f : Nat × Nat) : ReqWord :=
  (BitVec.allOnes f.2).setWidth 32 <<< f.1

/-- The word with ones in each of the fields. -/
def fieldsMask (fs : List (Nat × Nat)) : ReqWord :=
  fs.foldr (fieldMask · ||| ·) 0

theorem reservedBits_eq_fieldsMask (op : BitVec 4) : reservedBits op = fieldsMask (reservedFields op) := by
  decide +revert

theorem and_fieldMask {w : ReqWord} {f : Nat × Nat} (h : field w f.1 f.2 = 0) : w &&& fieldMask f = 0 := by
  apply BitVec.eq_of_getLsbD_eq
  intro i hi
  by_cases hin : f.1 ≤ i ∧ i - f.1 < f.2
  · have hbit : (field w f.1 f.2).getLsbD (i - f.1) = false := by rw [h]; exact BitVec.getLsbD_zero
    rw [field, BitVec.getLsbD_extractLsb', Nat.add_sub_cancel' hin.1, decide_eq_true hin.2, Bool.true_and] at hbit
    rw [BitVec.getLsbD_and, hbit]
    simp
  · have hmask : (fieldMask f).getLsbD i = false := by simp [fieldMask]; omega
    rw [BitVec.getLsbD_and, hmask]
    simp

theorem and_fieldsMask {w : ReqWord} {fs : List (Nat × Nat)} (h : ∀ f ∈ fs, field w f.1 f.2 = 0) :
    w &&& fieldsMask fs = 0 := by
  induction fs with
  | nil => exact BitVec.and_zero
  | cons f fs ih =>
    rw [List.forall_mem_cons] at h
    rw [fieldsMask, List.foldr_cons, BitVec.and_or_distrib_left, and_fieldMask h.1]
    exact (BitVec.zero_or).trans (ih h.2)

/-- A legal word's reserved fields are zero, opcode by opcode (R101, R104). -/
theorem legal_reservedFields {cfg : Config} {w : ReqWord} (h : legal cfg w = true) :
    ∀ f ∈ reservedFields (field w 28 4), field w f.1 f.2 = 0 := by
  unfold legal at h
  generalize field w 28 4 = op at h ⊢
  by_cases h0 : op = 0x0#4
  · simp_all [reservedFields]
  by_cases h1 : op = 0x1#4
  · simp_all [reservedFields]
  by_cases h2 : op = 0x2#4 ∨ op = 0x3#4 ∨ op = 0x4#4
  · rcases h2 with hop | hop | hop <;> simp_all [reservedFields]
  by_cases h5 : op = 0x5#4
  · simp_all [reservedFields]
  by_cases h6 : op = 0x6#4
  · simp_all [reservedFields]
  by_cases h7 : op = 0x7#4
  · simp_all [reservedFields]
  by_cases h8 : op = 0x8#4
  · simp_all [reservedFields]
  by_cases h9 : op = 0x9#4
  · simp_all [reservedFields]
  simp_all

/-- Settles O6: in a legal word every reserved field is zero, and the reserved bits are those fields' bits. -/
theorem reservedBitMakesIllegal : Obligations.ReservedBitMakesIllegal := by
  intro cfg w h
  have hl : legal cfg w = false := Bool.eq_false_iff.mpr fun hlegal =>
    h ((congrArg _ (reservedBits_eq_fieldsMask _)).trans (and_fieldsMask (legal_reservedFields hlegal)))
  exact ⟨hl, decodeRequest_ne_ok hl⟩

end Sys2Proof
end

section
/-!
PROOFS. The step that accepts an operation: the frames it loads, each as the layout writes it, and that a code outside
its legal set takes ILLEGAL_REQUEST (R84, R85, R140, R145 to R155, R172).
-/

namespace Sys2Proof.Machine

/-! ### The frames as the layout writes them -/

/-- A per-channel register's address is its base plus the channel index (R84). -/
theorem channelAddress_eq_index (base : Nat) (c : Channel) :
    channelAddress (BitVec.ofNat 8 base) c = BitVec.ofNat 8 (base + channelIndex c) := by
  rw [BitVec.ofNat_add]; cases c <;> rfl

/-- Settles O9: each kind's address and payload, by its own lemma. -/
theorem frameLayout : Obligations.FrameLayout :=
  ⟨encodeCommand_shutdown, encodeCommand_breathCtrl, encodeCommand_ledMode, encodeCommand_current,
    fun c _ => congrArg (Frame.mk · _) (channelAddress_eq_index 0x04 c), rfl,
    fun c t0 => (encodeCommand_t0 c t0).trans (congrArg (Frame.mk · _) (channelAddress_eq_index 0x0A c)),
    fun c t1 t2 => (encodeCommand_t12 c t1 t2).trans (congrArg (Frame.mk · _) (channelAddress_eq_index 0x10 c)),
    fun c t3 t4 => (encodeCommand_t34 c t3 t4).trans (congrArg (Frame.mk · _) (channelAddress_eq_index 0x16 c)),
    rfl, encodeCommand_ledControl, rfl⟩

/-! ### Accept of an operation -/

/-- A well-formed operation is accepted in `IDLE`: its word is logged and its frames are loaded (R140). -/
theorem exec_accepted {i : Instr} {w : ReqWord} {s : State} {fr : FrameBuffer} (hq : s.seq = .idle)
    (hwf : i.wellFormed s.config = true) (he : encode i = .req32 w) (hfr : storeFrames s.fr 0 (expand s.config i) = fr) :
    exec i s = .next { s with
      log := s.log ++ [.accepted w]
      n := BitVec.ofNat 3 (expand s.config i).length, k := 0, seq := .issue
      fr := fr } := by
  subst hfr
  exact (exec_operation s he).trans (accept_legal hq ((legal_encode he).trans hwf))

/-- Settles O23: the word of an ill-formed operation is not legal. -/
theorem illegalCodeTakesIllegalRequest : Obligations.IllegalCodeTakesIllegalRequest :=
  fun _ _ s hq hwf he => (exec_operation s he).trans (accept_illegal hq ((legal_encode he).trans hwf))

/-- Settles O13: `exec_accepted`, with the current-limit frame as its layout writes it. -/
theorem setMaxCurrentAccepted : Obligations.SetMaxCurrentAccepted :=
  fun cs s hq hcs => exec_accepted hq (List.contains_iff_mem.mpr hcs) rfl
    (congrArg (fun f => { s.fr with f0 := f }) (encodeCommand_current cs))

/-- Settles O14: four frames, so the whole buffer is written. -/
theorem setPwmAccepted : Obligations.SetPwmAccepted :=
  fun _ _ _ _ hq => exec_accepted hq rfl rfl rfl

/-- Settles O15: two frames; the rest of the buffer stays. -/
theorem setPwmLed1Accepted : Obligations.SetPwmLed1Accepted :=
  fun _ _ hq => exec_accepted hq rfl rfl rfl

/-- The frame of a one-channel PWM setter, in both settings of `PWM_SETTER_COMPAT` (R149, R150). -/
theorem encodeCommand_setterChannel (cfg : Config) (own : Channel) (v : Byte) :
    encodeCommand (.pwm (setterChannel cfg own) v) =
      ⟨if cfg.pwmSetterCompat then 0x04 else channelAddress 0x04 own, v⟩ := by
  unfold setterChannel; split <;> rfl

/-- Settles O16: the setter's channel decides the first address. -/
theorem setPwmLed2Accepted : Obligations.SetPwmLed2Accepted :=
  fun v s hq => exec_accepted hq rfl rfl
    (congrArg (fun f => { s.fr with f0 := f, f1 := ⟨0x07, 0⟩ }) (encodeCommand_setterChannel s.config .led2 v))

/-- Settles O17: as for channel 2, with channel 3's address. -/
theorem setPwmLed3Accepted : Obligations.SetPwmLed3Accepted :=
  fun v s hq => exec_accepted hq rfl rfl
    (congrArg (fun f => { s.fr with f0 := f, f1 := ⟨0x07, 0⟩ }) (encodeCommand_setterChannel s.config .led3 v))

/-- Settles O18: the codes are legal, and the three timing frames are those of the layout. -/
theorem setTimingAccepted : Obligations.SetTimingAccepted := by
  intro ch t0 t1 t2 t3 t4 s hq h0 h1 h2 h3 h4
  obtain ⟨_, _, _, _, _, _, layout0, layout12, layout34, _⟩ := frameLayout
  refine exec_accepted hq (by simp [Instr.wellFormed, *]) ?_ ?_
  · rw [encode, requestSetTiming, channelCode_eq_index]
  · simp only [expand, expandSetTiming, storeFrames, layout0, layout12, layout34]; rfl

/-- Settles O19: the two `BREATHING` forms differ in the mark bits alone. -/
theorem setModeAccepted : Obligations.SetModeAccepted := by
  refine ⟨fun s hq => exec_accepted hq rfl rfl rfl, fun sm s hq => exec_accepted hq rfl rfl ?_,
    fun sm ch s hq => exec_accepted hq rfl ?_ ?_⟩
  · exact congrArg (fun f => { s.fr with f0 := ⟨0x02, 0x20⟩, f1 := f }) (encodeCommand_breathCtrl _ _ _ _)
  · rw [← channelCode_eq_index]; rfl
  · exact congrArg (fun f => { s.fr with f0 := ⟨0x02, 0x20⟩, f1 := f }) (encodeCommand_breathCtrl _ _ _ _)

/-- Settles O20: one frame, the two bits where the layout puts them. -/
theorem shutdownAccepted : Obligations.ShutdownAccepted :=
  fun en ssd s hq => exec_accepted hq rfl rfl
    (congrArg (fun f => { s.fr with f0 := f }) (encodeCommand_shutdown en ssd))

/-- Settles O21: one frame, one bit per channel. -/
theorem setLedPowerAccepted : Obligations.SetLedPowerAccepted :=
  fun l1 l2 l3 s hq => exec_accepted hq rfl rfl
    (congrArg (fun f => { s.fr with f0 := f }) (encodeCommand_ledControl l1 l2 l3))

/-- Settles O22: one frame with payload 0. -/
theorem resetAccepted : Obligations.ResetAccepted :=
  fun _ hq => exec_accepted hq rfl rfl rfl

/-! ### The step and the instruction it runs -/

/-- Settles O32: in `IDLE` both the step and the instruction are Accept of the offered word. -/
theorem stepRunsDecodedRequest : Obligations.StepRunsDecodedRequest := by
  intro s p rest i hin hrst hq hv hd
  rw [step_cons hin, exec_decodedRequest (s := { s with inputs := rest }) hq hd]
  simp only [sampleStep, hrst, hq, requestStep, hv, hd, Bool.false_eq_true, if_false, if_true]

/-- A frame that decodes is the frame of a Command: no request word is a frame (R80, R133). -/
theorem exists_command_of_decodeFrame {f : Frame} {i : Instr} (h : decodeFrame f = .ok i) :
    ∃ c, encodeCommand c = f := by
  have he := decodeFrame_encode h
  cases hi : isOperation i
  case true =>
    obtain ⟨w, hw⟩ := encode_operation hi
    cases hw.symm.trans he
  case false =>
    obtain ⟨c, hc, _⟩ := exec_command hi
    have hword : wordOfFrame (encodeCommand c) = wordOfFrame f := Encoded.frame16.inj (hc.symm.trans he)
    exact ⟨c, by simpa using congrArg frameOfWord hword⟩

/-- Settles O31: the decoded frame has one of the 20 addresses, at which every frame has an effect. -/
theorem commandRunsAsItsFrame : Obligations.CommandRunsAsItsFrame := by
  intro f i s hd
  obtain ⟨c, rfl⟩ := exists_command_of_decodeFrame hd
  obtain ⟨t, ht⟩ := Option.isSome_iff_exists.mp ((writeTarget_isSome s.target _).mpr (encodeCommand_address c))
  exact ⟨t, ht, (exec_decodedFrame s hd).trans (landFrame_eq ht)⟩

end Sys2Proof.Machine
end

section
/-!
PROOFS. The assembler: a line of tokens is answered with a word exactly if it parses to a well-formed operation. How each
operation's line parses is said once, for every number as operand: it is taken exactly if it fits its field (R107).
-/

namespace Sys2Proof.Machine

theorem assembleTokens_eq_ok {cfg : Config} {ts : List Token} {w : ReqWord} :
    assembleTokens cfg ts = .ok w ↔ ∃ i, parseOperation ts = .ok i ∧ i.wellFormed cfg = true ∧ encode i = .req32 w := by
  unfold assembleTokens
  cases hp : parseOperation ts with
  | error e => simp
  | ok i =>
    cases hwf : i.wellFormed cfg
    · simp [hwf]
    · cases he : encode i <;> simp [hwf, he]

/-- Settles O8: the assembler answers with the word of a well-formed operation. -/
theorem assemblerWritesLegalWordsOnly : Obligations.AssemblerWritesLegalWordsOnly := by
  intro cfg line w h
  unfold assemble at h
  split at h
  · obtain ⟨i, _, hwf, he⟩ := assembleTokens_eq_ok.mp h
    exact (legal_encode he).trans hwf
  · cases h

/-! ### Operands -/

theorem narrow_toNat {w : Nat} (v : BitVec w) : narrow w v.toNat = .ok v := by
  rw [narrow, if_pos v.isLt, BitVec.ofNat_toNat, BitVec.setWidth_eq]

/-- A number operand is taken exactly if it fits its field, and then the other operands are read (R107). -/
theorem narrow_bind_eq_ok {w n : Nat} {f : BitVec w → Except AsmError Instr} {i : Instr} :
    narrow w n >>= f = .ok i ↔ n < 2 ^ w ∧ f (BitVec.ofNat w n) = .ok i := by
  unfold narrow
  split
  next hfit => exact (and_iff_right hfit).symm
  next hwide => exact ⟨nofun, fun h => absurd h.1 hwide⟩

theorem operandsOf_cons (t : Token) (n : Nat) (ns : List Nat) :
    operandsOf (t :: .comma :: commaNumbers (n :: ns)) = (operandsOf (commaNumbers (n :: ns))).map (t :: ·) := by
  cases ns <;> rfl

theorem operandsOf_commaNumbers (ns : List Nat) : operandsOf (commaNumbers ns) = some (ns.map .num) := by
  induction ns with
  | nil => rfl
  | cons n ns ih =>
    cases ns with
    | nil => rfl
    | cons m ns => rw [commaNumbers, operandsOf_cons, ih]; rfl

/-- A line whose operands are numbers alone (R107). -/
theorem parseOperation_numbers {op : String} (hop : op ≠ "SET_MODE") (ns : List Nat) :
    parseOperation (.name op :: commaNumbers ns) = plainOperation op (ns.map .num) := by
  simp [parseOperation, hop, operandsOf_commaNumbers]

/-! ### Lines -/

theorem parseOperation_setMaxCurrent (cs : Nat) :
    parseOperation (.name "SET_MAX_CURRENT" :: commaNumbers [cs]) = (do return .setMaxCurrent (← narrow 6 cs)) := by
  rw [parseOperation_numbers (by simp)]; rfl

theorem parseOperation_setPwm (r g b : Nat) :
    parseOperation (.name "SET_PWM" :: commaNumbers [r, g, b]) =
      (do return .setPwm (← narrow 8 r) (← narrow 8 g) (← narrow 8 b)) := by
  rw [parseOperation_numbers (by simp)]; rfl

theorem parseOperation_setPwmLed1 (v : Nat) :
    parseOperation (.name "SET_PWM_LED1" :: commaNumbers [v]) = (do return .setPwmLed1 (← narrow 8 v)) := by
  rw [parseOperation_numbers (by simp)]; rfl

theorem parseOperation_setPwmLed2 (v : Nat) :
    parseOperation (.name "SET_PWM_LED2" :: commaNumbers [v]) = (do return .setPwmLed2 (← narrow 8 v)) := by
  rw [parseOperation_numbers (by simp)]; rfl

theorem parseOperation_setPwmLed3 (v : Nat) :
    parseOperation (.name "SET_PWM_LED3" :: commaNumbers [v]) = (do return .setPwmLed3 (← narrow 8 v)) := by
  rw [parseOperation_numbers (by simp)]; rfl

theorem parseOperation_setTiming (ch : Channel) (t0 t1 t2 t3 t4 : Nat) :
    parseOperation (.name "SET_TIMING" :: .name (channelName ch) :: .comma :: commaNumbers [t0, t1, t2, t3, t4]) =
      (do return .setTiming ch (← narrow 4 t0) (← narrow 3 t1) (← narrow 4 t2) (← narrow 3 t3) (← narrow 4 t4)) := by
  have hparse : parseOperation (.name "SET_TIMING" :: .name (channelName ch) :: .comma ::
      commaNumbers [t0, t1, t2, t3, t4]) = plainOperation "SET_TIMING" (.name (channelName ch) ::
        [t0, t1, t2, t3, t4].map .num) := by
    simp [parseOperation, operandsOf_cons, operandsOf_commaNumbers]
  rw [hparse]
  cases ch <;> rfl

theorem parseOperation_shutdown (en ssd : Nat) :
    parseOperation (.name "SHUTDOWN" :: commaNumbers [en, ssd]) =
      (do return .shutdown (← narrow 1 en) (← narrow 1 ssd)) := by
  rw [parseOperation_numbers (by simp)]; rfl

theorem parseOperation_setLedPower (l1 l2 l3 : Nat) :
    parseOperation (.name "SET_LED_POWER" :: commaNumbers [l1, l2, l3]) =
      (do return .setLedPower (← narrow 1 l1) (← narrow 1 l2) (← narrow 1 l3)) := by
  rw [parseOperation_numbers (by simp)]; rfl

theorem modeOperands_modeTokens (mode : Mode) : modeOperands (modeTokens mode) = .ok mode := by
  rcases mode with _ | ⟨sm, _ | ch⟩
  · rfl
  · cases sm <;> rfl
  · cases sm <;> cases ch <;> rfl

/-- The tokens of an operation parse to it (R107). -/
theorem parseOperation_operationTokens {i : Instr} {ts : List Token} (h : operationTokens i = some ts) :
    parseOperation ts = .ok i := by
  cases i <;> simp only [operationTokens, Option.some.injEq, reduceCtorEq] at h <;> subst h
  case setMode mode => exact congrArg (Except.map _) (modeOperands_modeTokens mode)
  case reset => rfl
  all_goals
    simp only [parseOperation_setMaxCurrent, parseOperation_setPwm, parseOperation_setPwmLed1, parseOperation_setPwmLed2,
      parseOperation_setPwmLed3, parseOperation_setTiming, parseOperation_shutdown, parseOperation_setLedPower,
      narrow_toNat]
    rfl

/-- An instruction with a request word is an operation, and has tokens (R90, R107). -/
theorem exists_operationTokens {i : Instr} {w : ReqWord} (h : encode i = .req32 w) :
    ∃ ts, operationTokens i = some ts := by
  cases i <;> simp only [encode, commandWord, reduceCtorEq] at h <;> exact ⟨_, rfl⟩

/-- Settles O7: the tokens parse to the operation. -/
theorem syntaxAssemblesToTheEncoding : Obligations.SyntaxAssemblesToTheEncoding := by
  intro cfg i w hwf he
  obtain ⟨ts, hts⟩ := exists_operationTokens he
  exact ⟨ts, hts, assembleTokens_eq_ok.mpr ⟨i, parseOperation_operationTokens hts, hwf, he⟩⟩

theorem parseOperation_setPwmLed_fits {op : String} {v : Nat} {i : Instr}
    (hop : op ∈ ["SET_PWM_LED1", "SET_PWM_LED2", "SET_PWM_LED3"])
    (h : parseOperation (.name op :: commaNumbers [v]) = .ok i) : v < 2 ^ 8 := by
  simp only [List.mem_cons, List.not_mem_nil, or_false] at hop
  rcases hop with rfl | rfl | rfl
  · rw [parseOperation_setPwmLed1, narrow_bind_eq_ok] at h; exact h.1
  · rw [parseOperation_setPwmLed2, narrow_bind_eq_ok] at h; exact h.1
  · rw [parseOperation_setPwmLed3, narrow_bind_eq_ok] at h; exact h.1

/-- Settles O58: an answered line's numbers fit their fields, and its codes are those of a well-formed operation. -/
theorem assemblerRejectsOperandsThatDoNotFit : Obligations.AssemblerRejectsOperandsThatDoNotFit := by
  intro cfg w
  refine ⟨fun cs hbad h => ?_, fun r g b hbad h => ?_, fun op hop v hbad h => ?_,
    fun ch t0 t1 t2 t3 t4 hbad h => ?_, fun en ssd hbad h => ?_, fun l1 l2 l3 hbad h => ?_⟩ <;>
    obtain ⟨i, hparse, hwf, _⟩ := assembleTokens_eq_ok.mp h
  · rw [parseOperation_setMaxCurrent, narrow_bind_eq_ok] at hparse
    obtain ⟨hcs, ⟨⟩⟩ := hparse
    exact hbad.elim (by omega) (absurd (List.contains_iff_mem.mp hwf))
  · simp only [parseOperation_setPwm, narrow_bind_eq_ok] at hparse
    omega
  · have hfit := parseOperation_setPwmLed_fits hop hparse
    omega
  · simp only [parseOperation_setTiming, narrow_bind_eq_ok] at hparse
    obtain ⟨h0, h1, h2, h3, h4, ⟨⟩⟩ := hparse
    simp only [Instr.wellFormed, Bool.and_eq_true, List.contains_iff_mem] at hwf
    obtain ⟨⟨⟨⟨hl0, hl1⟩, hl2⟩, hl3⟩, hl4⟩ := hwf
    simp only [hl0, hl1, hl2, hl3, hl4, not_true_eq_false, or_false] at hbad
    omega
  · simp only [parseOperation_shutdown, narrow_bind_eq_ok] at hparse
    omega
  · simp only [parseOperation_setLedPower, narrow_bind_eq_ok] at hparse
    omega

end Sys2Proof.Machine
end

section
/-!
PROOFS. The Command a frame identifies, read back through the decoder: each Command has its own row, the row's encoding
is the Command's frame, and the frame decodes to the row (R83, R133). The step that runs the row (R142).
-/

namespace Sys2Proof.Machine

/-! ### A frame identifies its Command -/

/-- The Command of a row of 40_commands.md, its kind and channel read off the row (R83, R120 to R131). -/
def commandOfRow : Instr → Option Command
  | .cmdShutdown en ssd => some (.shutdown en ssd)
  | .cmdBreathCtrl rm ht bme css => some (.breathCtrl rm ht bme css)
  | .cmdLedMode bm => some (.ledMode bm)
  | .cmdCurrent cs => some (.current cs)
  | .cmdPwm0 d => some (.pwm .led1 d)
  | .cmdPwm1 d => some (.pwm .led2 d)
  | .cmdPwm2 d => some (.pwm .led3 d)
  | .cmdPwmUpdate => some .pwmUpdate
  | .cmdTimeZero0 t0 => some (.t0 .led1 t0)
  | .cmdTimeZero1 t0 => some (.t0 .led2 t0)
  | .cmdTimeZero2 t0 => some (.t0 .led3 t0)
  | .cmdTimeOneTwo0 t1 t2 => some (.t12 .led1 t1 t2)
  | .cmdTimeOneTwo1 t1 t2 => some (.t12 .led2 t1 t2)
  | .cmdTimeOneTwo2 t1 t2 => some (.t12 .led3 t1 t2)
  | .cmdTimeThreeFour0 t3 t4 => some (.t34 .led1 t3 t4)
  | .cmdTimeThreeFour1 t3 t4 => some (.t34 .led2 t3 t4)
  | .cmdTimeThreeFour2 t3 t4 => some (.t34 .led3 t3 t4)
  | .cmdTimeUpdate => some .timeUpdate
  | .cmdLedControl l1 l2 l3 => some (.ledControl l1 l2 l3)
  | .cmdReset => some .reset
  | _ => none

theorem exists_row (c : Command) : ∃ i, commandOfRow i = some c := by
  cases c with
  | shutdown en ssd => exact ⟨.cmdShutdown en ssd, rfl⟩
  | breathCtrl rm ht bme css => exact ⟨.cmdBreathCtrl rm ht bme css, rfl⟩
  | ledMode bm => exact ⟨.cmdLedMode bm, rfl⟩
  | current cs => exact ⟨.cmdCurrent cs, rfl⟩
  | pwm ch d => cases ch; exacts [⟨.cmdPwm0 d, rfl⟩, ⟨.cmdPwm1 d, rfl⟩, ⟨.cmdPwm2 d, rfl⟩]
  | pwmUpdate => exact ⟨.cmdPwmUpdate, rfl⟩
  | t0 ch x => cases ch; exacts [⟨.cmdTimeZero0 x, rfl⟩, ⟨.cmdTimeZero1 x, rfl⟩, ⟨.cmdTimeZero2 x, rfl⟩]
  | t12 ch x y =>
    cases ch; exacts [⟨.cmdTimeOneTwo0 x y, rfl⟩, ⟨.cmdTimeOneTwo1 x y, rfl⟩, ⟨.cmdTimeOneTwo2 x y, rfl⟩]
  | t34 ch x y =>
    cases ch; exacts [⟨.cmdTimeThreeFour0 x y, rfl⟩, ⟨.cmdTimeThreeFour1 x y, rfl⟩, ⟨.cmdTimeThreeFour2 x y, rfl⟩]
  | timeUpdate => exact ⟨.cmdTimeUpdate, rfl⟩
  | ledControl l1 l2 l3 => exact ⟨.cmdLedControl l1 l2 l3, rfl⟩
  | reset => exact ⟨.cmdReset, rfl⟩

/-- A Command's row is encoded as the Command's frame, and no code of it needs a check (R104, R133). -/
theorem encode_row {i : Instr} {c : Command} (h : commandOfRow i = some c) :
    encode i = commandWord c ∧ ∀ cfg, i.wellFormed cfg = true := by
  cases i <;> cases h <;> exact ⟨rfl, fun _ => rfl⟩

/-- The frame of a Command decodes to the Command's row (R133). -/
theorem decodeFrame_encodeCommand {i : Instr} {c : Command} (h : commandOfRow i = some c) :
    decodeFrame (encodeCommand c) = .ok i := by
  obtain ⟨he, hwf⟩ := encode_row h
  rw [← decode_commandWord Config.default c, ← he]
  exact encodeThenDecode Config.default i (hwf _)

/-- Settles O10: the one frame decodes to the rows of both Commands, so they have one row. -/
theorem encodeCommandInjective : Obligations.EncodeCommandInjective := by
  intro c d h
  obtain ⟨i, hi⟩ := exists_row c
  obtain ⟨j, hj⟩ := exists_row d
  have hij : i = j := Except.ok.inj <|
    calc Except.ok i = decodeFrame (encodeCommand c) := (decodeFrame_encodeCommand hi).symm
      _ = decodeFrame (encodeCommand d) := congrArg decodeFrame h
      _ = .ok j := decodeFrame_encodeCommand hj
  exact Option.some.inj (hi.symm.trans (hij ▸ hj))

/-! ### The step that runs a Command -/

/-- Settles O33: both the step and the instruction land the outstanding frame once the block has moved on. -/
theorem stepRunsDecodedFrame : Obligations.StepRunsDecodedFrame := by
  intro s p rest i hin hrst hq hv hok hk hn hd
  rw [step_cons hin, exec_decodedFrame _ hd]
  simp only [sampleStep, answerStep, hrst, hq, hv, hok, Bool.false_eq_true, if_false, if_true]
  exact if_pos ((holdsFrame_iff _).mpr ⟨hk, hn⟩)

end Sys2Proof.Machine
end

section
/-!
PROOFS. The steps of 41_operations.md one at a time: what each enabled step does to the whole state (R140 to R144), what
a step without an enabled event leaves (R156, R158), and from them the aborted operation and the illegal request.
-/

namespace Sys2Proof.Machine

/-! ### Each enabled step as an equation -/

theorem portsNow_cons {s : State} {p : PortSample} {rest : List PortSample} (h : s.inputs = p :: rest) :
    portsNow s = p := by
  rw [portsNow, h, List.headD_cons]

theorem consumeInput_cons {s : State} {p : PortSample} {rest : List PortSample} (h : s.inputs = p :: rest) :
    consumeInput s = { s with inputs := rest } := by
  rw [consumeInput, h, List.tail_cons]

section
variable {s : State} {p : PortSample} {rest : List PortSample}

/-- Accept of a word that decodes (R140). -/
theorem step_legalRequest {i : Instr} (hin : s.inputs = p :: rest) (hrst : p.rst = false) (hq : s.seq = .idle)
    (hv : p.reqValid = true) (hd : decodeRequest s.config p.reqWord = .ok i) :
    step s = .next (loadOperation (expand s.config i) (emit (.accepted p.reqWord) { s with inputs := rest })) := by
  rw [step_cons hin]
  simp [sampleStep, requestStep, hrst, hq, hv, hd]

/-- Accept of an illegal word (R140, R172). -/
theorem step_illegalRequest (hin : s.inputs = p :: rest) (hrst : p.rst = false) (hq : s.seq = .idle)
    (hv : p.reqValid = true) (hl : legal s.config p.reqWord = false) :
    step s = .next (acceptIllegal p.reqWord { s with inputs := rest }) := by
  rw [step_cons hin]
  cases hd : decodeRequest s.config p.reqWord
  case error r => simp [sampleStep, requestStep, hrst, hq, hv, hd]
  case ok i => exact absurd hd (decodeRequest_ne_ok hl i)

/-- BusErr, with the failed frame's effect at the chip or none (R143, R68). -/
theorem step_busErr {tg : Target} (hin : s.inputs = p :: rest) (hrst : p.rst = false) (hq : s.seq = .wait)
    (hv : p.busRspValid = true) (hok : p.busRspOk = false) (hf : holdsFrame s = true)
    (hw : writeTarget s.target (frameAt s.fr s.k.toNat) = some tg) :
    ∃ tg', (tg' = tg ∨ tg' = s.target) ∧
      step s = .next { raiseTransportError p.busRspErr (emit (.failed s.k.toNat p.busRspErr) s) with
        inputs := rest, target := tg', draws := s.draws + 1 } := by
  refine ⟨if Config.frameLands s.draws then tg else s.target, ite_eq_or_eq .., ?_⟩
  rw [step_cons hin]
  simp only [sampleStep, answerStep, hrst, hq, hv, hok, Bool.false_eq_true, if_false, if_true]
  exact (if_pos hf).trans (mayLandFrame_eq hw)

end

/-- `IDLE` with no request offered (R158). -/
theorem step_noRequest {s : State} (hrst : (portsNow s).rst = false) (hq : s.seq = .idle)
    (hv : (portsNow s).reqValid = false) : step s = .next (consumeInput s) := by
  rw [step_idle hrst hq, requestStep, hv]; rfl

/-- `WAIT` without an answer (R156). -/
theorem step_noAnswer {s : State} (hrst : (portsNow s).rst = false) (hq : s.seq = .wait)
    (hv : (portsNow s).busRspValid = false) : step s = .next (consumeInput s) := by
  rw [step_wait hrst hq, answerStep, hv]; rfl

/-- `RESP` without a taker (R156). -/
theorem step_noTaker {s : State} (hrst : (portsNow s).rst = false) (hq : s.seq = .resp)
    (hy : (portsNow s).rspReady = false) : step s = .next (consumeInput s) := by
  rw [step_eq]
  simp [sampleStep, hrst, hq, hy]

/-! ### The steps of an operation -/

/-- Settles O34: the decoder gives an operation for exactly the legal words; its frames fill the buffer from 0 on. -/
theorem acceptStep : Obligations.AcceptStep := by
  intro s p rest hin hrst hq hv
  refine ⟨fun hl => step_illegalRequest hin hrst hq hv hl, fun hl => ?_⟩
  obtain ⟨i, hd⟩ := (decodeRequest_isOk _ _).mpr hl
  have hle := expand_length_le s.config i
  exact ⟨i, _, hd, expand_length_pos _ (isOperation_of_decodeRequest hd), hle, storeFrames_buffer s.fr hle,
    step_legalRequest hin hrst hq hv hd⟩

/-- Settles O35: `step_issue`, its record update written out. -/
theorem issueStep : Obligations.IssueStep :=
  fun _ hrst hq hk hn => step_issue hrst hq ((holdsFrame_iff _).mpr ⟨hk, hn⟩)

/-- Settles O36: the acked frame lands, and `frameAcked` tells the last frame from the others. -/
theorem busOkStep : Obligations.BusOkStep := by
  intro s p rest t hin hrst hq hv hok hk hn hw
  rw [← portsNow_cons hin] at hrst hv hok
  have hstep := step_busOk hrst hq hv hok ((holdsFrame_iff s).mpr ⟨hk, hn⟩) hw
  rw [consumeInput_cons hin] at hstep
  refine ⟨fun hlast => ?_, fun hmore => ?_⟩
  · rw [hstep, frameAcked_last (s := { s with inputs := rest }) hlast]; rfl
  · rw [hstep, frameAcked_more (s := { s with inputs := rest }) hmore.ne]
    simp [emit, BitVec.ofNat_add]

/-- Settles O37: `step_busErr`, its record update written out. -/
theorem busErrStep : Obligations.BusErrStep :=
  fun _ _ _ _ hin hrst hq hv hok hk hn hw => step_busErr hin hrst hq hv hok ((holdsFrame_iff _).mpr ⟨hk, hn⟩) hw

/-- Settles O38: the status decides whether the response carries `RSP_ERR`. -/
theorem deliverStep : Obligations.DeliverStep := by
  intro s p rest hin hrst hq hy
  rw [← portsNow_cons hin] at hrst hy
  have hstep := step_deliver hrst hq hy
  rw [consumeInput_cons hin] at hstep
  rw [hstep]
  cases hst : s.rspStatus <;> simp [deliver, emit, responseError]

/-- Settles O42: quiescence is `IDLE` with no request offered. -/
theorem quiescentStepDoesNothing : Obligations.QuiescentStepDoesNothing := by
  intro s hquiet hrst
  simp only [quiescent, Bool.and_eq_true, beq_iff_eq, Bool.not_eq_true'] at hquiet
  obtain ⟨hq, hv⟩ := hquiet
  exact step_noRequest hrst hq hv

/-! ### The log of a step -/

/-- Settles O45: each kind of step logs nothing or the one event of its phase. -/
theorem stepLogsAtMostOneEvent : Obligations.StepLogsAtMostOneEvent := by
  intro s t h
  cases step_next_effect h with
  | reset tg d _ _ ht => subst ht; exact .inr ⟨_, rfl, rfl⟩
  | stays _ ht => subst ht; exact .inl rfl
  | accepted i _ hq _ ht => subst ht; exact .inr ⟨_, rfl, beq_iff_eq.mpr hq⟩
  | illegal _ hq _ ht => subst ht; exact .inr ⟨_, rfl, beq_iff_eq.mpr hq⟩
  | issued _ hq _ ht => subst ht; exact .inr ⟨_, rfl, beq_iff_eq.mpr hq⟩
  | acked tg _ hq _ _ _ ht => subst ht; exact .inr ⟨_, frameAcked_log _, beq_iff_eq.mpr hq⟩
  | failed tg d _ hq _ _ _ ht => subst ht; exact .inr ⟨_, rfl, beq_iff_eq.mpr hq⟩
  | delivered _ hq ht => subst ht; exact .inr ⟨_, rfl, beq_iff_eq.mpr hq⟩

/-! ### Waiting without end -/

/-- Where every sample with `Q` leaves `s` as it is, any number of them does; past the end every sample is quiet. -/
theorem run_stays {s : State} {Q : PortSample → Prop} (hquiet : Q .quiet)
    (hstays : ∀ ins, Q (portsNow { s with inputs := ins }) →
      step { s with inputs := ins } = .next { s with inputs := ins.tail }) (j : Nat) :
    ∀ ins : List PortSample, (∀ p ∈ ins.take j, Q p) →
      Host.Core.run core j { s with inputs := ins } = .next { s with inputs := ins.drop j } := by
  induction j with
  | zero => exact fun _ _ => rfl
  | succ j ih =>
    intro ins h
    cases ins with
    | nil =>
      have hrun := ih [] (by simp)
      rw [List.drop_nil] at hrun ⊢
      exact (run_next (hstays [] hquiet)).trans hrun
    | cons p rest =>
      rw [List.take_succ_cons, List.forall_mem_cons] at h
      exact (run_next (hstays (p :: rest) h.1)).trans (ih rest h.2)

/-- Settles O41: in both phases a sample with `rst` 0 and no answer or no taker leaves the state as it is. -/
theorem noTimeout : Obligations.NoTimeout := by
  intro s j hrst
  refine ⟨fun hq hv => ?_, fun hq hy => ?_⟩
  · exact run_stays (s := s) (Q := fun p => p.rst = false ∧ p.busRspValid = false) ⟨rfl, rfl⟩
      (fun _ h => step_noAnswer h.1 hq h.2) j s.inputs fun p hp => ⟨hrst p hp, hv p hp⟩
  · exact run_stays (s := s) (Q := fun p => p.rst = false ∧ p.rspReady = false) ⟨rfl, rfl⟩
      (fun _ h => step_noTaker h.1 hq h.2) j s.inputs fun p hp => ⟨hrst p hp, hy p hp⟩

/-! ### Operations that do not succeed -/

/-- Settles O57: Accept of the illegal word, then Deliver of ILLEGAL_REQUEST without an error value. -/
theorem illegalRequestTakesTwoSteps : Obligations.IllegalRequestTakesTwoSteps := by
  intro s w rest hq hl hin
  rw [run_next (step_illegalRequest hin rfl hq rfl hl), run_one (step_deliver rfl rfl rfl)]
  simp [deliver, emit, acceptIllegal, raiseIllegalRequest, respond, consumeInput, responseError, offerSample, hq]

/-- Settles O56: the frames before the failed one by `run_beforeFrame`, then Issue, BusErr and Deliver. -/
theorem abortAtFailedFrame : Obligations.AbortAtFailedFrame := by
  intro s w i before after f e rest hq hd hframes hin
  have hlt : before.length < (framesOf s.config i).length := by simp [hframes]
  have htake : (framesOf s.config i).take before.length = before := by simp [hframes]
  have htake' : (framesOf s.config i).take (before.length + 1) = before ++ [f] := by
    rw [List.take_succ_eq_append_getElem hlt, htake]; simp [hframes]
  have hframe : frameAt (storeFrames s.fr 0 (expand s.config i)) before.length = f := by
    simp [storeFrames_frame hlt, hframes]
  have hbefore := run_beforeFrame (ins := .quiet :: failSample e :: takeSample :: rest) hq hd hlt
    (by simp [hin, abortSchedule])
  obtain ⟨tg, htg, hfail⟩ := step_busErr
    (s := awaitingAnswer s w i before.length (failSample e :: takeSample :: rest)) rfl rfl rfl rfl rfl (beforeFrame_holdsFrame (w := w) (ins := failSample e :: takeSample :: rest) hlt)
    (beforeFrame_writeTarget (w := w) (ins := failSample e :: takeSample :: rest) hlt)
  rw [show 2 + 2 * (before.length + 1) = 1 + 2 * before.length + 3 by omega, run_add 3 hbefore,
    run_next (step_beforeFrame hlt), run_next hfail]
  refine ⟨_, run_one (step_deliver rfl rfl rfl), rfl, rfl, rfl, rfl, ?_, ?_⟩
  · rw [awaitingAnswer_k hlt]
    simp [awaitingAnswer, beforeFrame, responseError, htake, hframe, failSample]
  · rw [htake'] at htg
    exact htg.symm.imp (·.trans (congrArg (afterFrames · s.target) htake)) id

/-! ### The last Command of an operation -/

/-- Settles O50: row by row; six rows have several Commands, and each writes its apply or its breathing control last. -/
theorem applyComesLast : Obligations.ApplyComesLast := by
  intro cfg i hlen
  have hshort (h : (expand cfg i).length ≤ 1) : False := by omega
  cases i
  case setPwm r g b => exact ⟨[.pwm .led1 r, .pwm .led2 g, .pwm .led3 b], _, rfl, .inl rfl, by simp, by simp⟩
  case setPwmLed1 v => exact ⟨[.pwm .led1 v], _, rfl, .inl rfl, by simp, by simp⟩
  case setPwmLed2 v => exact ⟨[.pwm (setterChannel cfg .led2) v], _, rfl, .inl rfl, by simp, by simp⟩
  case setPwmLed3 v => exact ⟨[.pwm (setterChannel cfg .led3) v], _, rfl, .inl rfl, by simp, by simp⟩
  case setTiming ch t0 t1 t2 t3 t4 =>
    exact ⟨[.t0 ch t0, .t12 ch t1 t2, .t34 ch t3 t4], _, rfl, .inr (.inl rfl), by simp, by simp⟩
  case setMode mode =>
    cases mode with
    | pwm => exact (hshort le_rfl).elim
    | breathing sm mark => exact ⟨[.ledMode 1], _, rfl, .inr (.inr ⟨_, _, _, _, rfl⟩), by simp, by simp⟩
  all_goals exact (hshort (Nat.le_of_ble_eq_true rfl)).elim

end Sys2Proof.Machine
end

section
/-!
PROOFS. Under the invariant a step answers: in `ISSUE` and `WAIT` the frame `FR[K]` is a frame of the operation in
flight, so it is held and its address is one of R51. Only a reset in `WAIT` can be refused (R27, R170, R201).
-/

namespace Sys2Proof.Machine

/-! ### The frame of an operation in flight -/

theorem RunInv.exists_inFlight {s : State} (h : RunInv s) (hq : s.seq = .issue ∨ s.seq = .wait) :
    ∃ w, InFlight s w := by
  have hbusy : s.seq ≠ .idle := by rintro hidle; simp [hidle] at hq
  obtain ⟨w, _, _, _, hprog⟩ := h.operation hbusy
  obtain hq | hq := hq
  · exact ⟨w, ((progress_issue hq).mp hprog).1⟩
  · exact ⟨w, ((progress_wait hq).mp hprog).1⟩

theorem InFlight.holdsFrame {s : State} {w : ReqWord} (h : InFlight s w) : holdsFrame s = true := by
  obtain ⟨i, _, hn, hk, _⟩ := h
  exact (holdsFrame_iff s).mpr ⟨hk, hn.trans_le (framesOf_length_le _ i)⟩

/-- `FR[K]` is one of the operation's frames (R27). -/
theorem InFlight.frameAt_mem {s : State} {w : ReqWord} (h : InFlight s w) :
    ∃ i, frameAt s.fr s.k.toNat ∈ framesOf s.config i := by
  obtain ⟨hk, hn⟩ := (holdsFrame_iff s).mp h.holdsFrame
  obtain ⟨i, _, _, _, hframes⟩ := h
  refine ⟨i, ?_⟩
  rw [← hframes, frameAt_eq_getElem s.fr (hk.trans_le hn)]
  exact List.mem_take_iff_getElem.mpr ⟨_, lt_min hk (hk.trans_le hn), rfl⟩

/-- `FR[K]` has an effect, whatever the chip holds (R51). -/
theorem InFlight.exists_writeTarget {s : State} {w : ReqWord} (h : InFlight s w) (t : Target) :
    ∃ tg, writeTarget t (frameAt s.fr s.k.toNat) = some tg := by
  obtain ⟨_, hmem⟩ := h.frameAt_mem
  exact Option.isSome_iff_exists.mp ((writeTarget_isSome t _).mpr (framesOf_address hmem))

/-! ### The parts of a step answer -/

theorem requestStep_answers (p : PortSample) (s : State) : ∃ t, requestStep p s = .next t := by
  unfold requestStep
  cases p.reqValid
  case false => exact ⟨_, rfl⟩
  cases decodeRequest s.config p.reqWord
  case error r => exact ⟨_, rfl⟩
  case ok i => exact ⟨_, rfl⟩

theorem InFlight.issueFrame_answers {s : State} {w : ReqWord} (h : InFlight s w) : ∃ t, issueFrame s = .next t :=
  ⟨_, if_pos h.holdsFrame⟩

/-- The frame that was not acked lands in `u`, the state that the answer or the reset leaves, or does not (R68). -/
theorem InFlight.mayLandFrame_answers {s : State} {w : ReqWord} (h : InFlight s w) (u : State) :
    ∃ t, mayLandFrame (frameAt s.fr s.k.toNat) u = .next t := by
  obtain ⟨_, hw⟩ := h.exists_writeTarget u.target
  exact ⟨_, mayLandFrame_eq hw⟩

theorem InFlight.answerStep_answers {s : State} {w : ReqWord} (h : InFlight s w) (p : PortSample) :
    ∃ t, answerStep p s = .next t := by
  unfold answerStep frameFailed
  rw [h.holdsFrame]
  cases p.busRspValid
  case false => exact ⟨_, rfl⟩
  cases p.busRspOk
  case false => exact h.mayLandFrame_answers _
  obtain ⟨_, hw⟩ := h.exists_writeTarget (frameAcked s).target
  exact ⟨_, landFrame_eq hw⟩

/-! ### The reset -/

theorem resetStep_answers_of_ne_wait {s : State} (p : PortSample) (hq : s.seq ≠ .wait) :
    ∃ t, resetStep p s = .next t :=
  ⟨_, if_neg hq⟩

/-- With a frame outstanding the transport's own reset decides (R201). -/
theorem InFlight.resetStep_cases {s : State} {w : ReqWord} (h : InFlight s w) (p : PortSample) (hq : s.seq = .wait) :
    (∃ t, resetStep p s = .next t) ∨ resetStep p s = .refused .resetWithFrameOutstanding := by
  unfold resetStep
  rw [if_pos hq, h.holdsFrame]
  cases p.transportRst
  case false => exact .inr rfl
  case true => exact .inl (h.mayLandFrame_answers _)

/-! ### The step -/

theorem RunInv.step_reset_cases {s : State} (h : RunInv s) (hrst : (portsNow s).rst = true) :
    (∃ t, step s = .next t) ∨ (step s = .refused .resetWithFrameOutstanding ∧ s.seq = .wait) := by
  rw [step_eq, sampleStep, if_pos hrst]
  by_cases hq : s.seq = .wait
  · obtain ⟨w, hfl⟩ := h.exists_inFlight (.inr hq)
    exact (InFlight.resetStep_cases (s := consumeInput s) hfl _ hq).imp_right (⟨·, hq⟩)
  · exact .inl (resetStep_answers_of_ne_wait _ hq)

theorem RunInv.step_answers {s : State} (h : RunInv s) (hrst : (portsNow s).rst = false) :
    ∃ t, step s = .next t := by
  rw [step_eq, sampleStep, hrst, consumeInput_seq]
  cases hq : s.seq
  case idle => exact requestStep_answers _ _
  case issue =>
    obtain ⟨w, hfl⟩ := h.exists_inFlight (.inl hq)
    exact InFlight.issueFrame_answers (s := consumeInput s) hfl
  case wait =>
    obtain ⟨w, hfl⟩ := h.exists_inFlight (.inr hq)
    exact InFlight.answerStep_answers (s := consumeInput s) hfl _
  case resp => exact ⟨_, rfl⟩

/-- Settles O54: without `rst` every phase answers; with it only `WAIT` can refuse. -/
theorem stepNeverFaults : Obligations.StepNeverFaults := by
  intro s h
  cases hrst : (portsNow s).rst
  case false => exact .inl (h.step_answers hrst)
  case true => exact (h.step_reset_cases hrst).imp_right fun ⟨hstep, hq⟩ => ⟨hstep, rfl, hq⟩

end Sys2Proof.Machine
end

section
/-!
PROOFS. The step with `rst`: outside `WAIT` it resets the block; in `WAIT` the transport's own reset decides (R200 to
R202).
-/

namespace Sys2Proof.Machine

/-! ### The reset step as an equation -/

section
variable {s : State} {p : PortSample}

theorem step_reset {rest : List PortSample} (hin : s.inputs = p :: rest) (hrst : p.rst = true) :
    step s = resetStep p { s with inputs := rest } := by
  rw [step_cons hin, sampleStep, if_pos hrst]

theorem resetStep_of_ne_wait (hq : s.seq ≠ .wait) : resetStep p s = .next (resetBlock (strapOf p.strap) s) :=
  if_neg hq

theorem resetStep_refused (hq : s.seq = .wait) (hp : p.transportRst = false) :
    resetStep p s = .refused .resetWithFrameOutstanding := by
  rw [resetStep, if_pos hq, hp]; rfl

/-- With a reset of the transport the abandoned frame has its effect or none (notes/assumptions/8.md). -/
theorem resetStep_abandons {tg : Target} (hq : s.seq = .wait) (hp : p.transportRst = true) (hf : holdsFrame s = true)
    (hw : writeTarget s.target (frameAt s.fr s.k.toNat) = some tg) :
    ∃ tg', (tg' = tg ∨ tg' = s.target) ∧
      resetStep p s = .next { resetBlock (strapOf p.strap) s with target := tg', draws := s.draws + 2 } := by
  refine ⟨if Config.frameLands (s.draws + 1) then tg else s.target, ite_eq_or_eq .., ?_⟩
  rw [resetStep, if_pos hq, if_pos hp, if_pos hf]
  exact mayLandFrame_eq hw

end

/-! ### The statements -/

/-- Settles O39: `resetBlock` draws what the step leaves unspecified. -/
theorem resetStepHolds : Obligations.ResetStep :=
  fun s _ _ hin hrst hq => ⟨Config.afterReset s.draws, (step_reset hin hrst).trans (resetStep_of_ne_wait hq)⟩

/-- Settles O40: refused without a reset of the transport; with one the block is reset and the frame abandoned. -/
theorem resetWithFrameOutstanding : Obligations.ResetWithFrameOutstanding := by
  intro s p rest t hin hrst hq
  rw [step_reset hin hrst]
  refine ⟨resetStep_refused hq, fun hp hk hn hw => ?_⟩
  obtain ⟨tg, htg, hreset⟩ := resetStep_abandons (s := { s with inputs := rest }) hq hp
    ((holdsFrame_iff _).mpr ⟨hk, hn⟩) hw
  exact ⟨Config.afterReset s.draws, tg, htg, hreset⟩

end Sys2Proof.Machine
end
